-- ==== Sys2Proof/Word.lean ====
section
/-! DEFINITION. The widths of the block (spec 00_scope R10): bytes, 16-bit and 32-bit unsigned words. -/

namespace Sys2Proof

/-- `u8`: a byte (R10). -/
abbrev Byte := BitVec 8

/-- `u16`: addresses, reset counters, message counters, checksums (R8, R10). -/
abbrev Half := BitVec 16

/-- `u32`: the Beacon uptime (R10, R84). -/
abbrev Word := BitVec 32

end Sys2Proof
end

