-- ==== Sys2Proof/Config.lean ====
section
/-! DEFINITION. The parameters of a block instance (spec 00_scope R8) and the model's free value (20_memory R55). -/

namespace Sys2Proof

/-- The parameters of R8, "fixed for the lifetime of one block instance".
STORAGE_IMAGE, the fifth, is the argument of `Machine.State.powerOn`. -/
structure Config where
  /-- OWN_ADDR on the CFG input (R8, R50). -/
  ownAddr : Half
  /-- PEER_CAPACITY, written P. -/
  peerCapacity : Nat
  /-- STORAGE_BASE, written S. -/
  storageBase : Nat
  /-- WIRE_BUF_SIZE, written B. -/
  wireBufSize : Nat
  deriving DecidableEq, Repr

/-- The legal configurations (R8, R24, R54): every other one is refused (60_exceptions R232 (a)). -/
def Config.legal (c : Config) : Bool :=
  decide (c.ownAddr ≠ 0x0000 ∧ c.ownAddr ≠ 0xFFFF ∧
    1 ≤ c.peerCapacity ∧ c.peerCapacity ≤ 255 ∧
    c.storageBase + 4 * c.peerCapacity + 3 ≤ 0x10000 ∧
    20 ≤ c.wireBufSize)

/-- The instance `Machine.State.reset` powers on. DESIGN CHOICE (log entry 1): the spec leaves OWN_ADDR,
P and S open; S = 0 and B = 25 are its defaults (R8), OWN_ADDR = 0x1001 and P = 2 those of its test vectors. -/
def Config.standard : Config :=
  { ownAddr := 0x1001, peerCapacity := 2, storageBase := 0, wireBufSize := 25 }

/-- FREE VALUE (log entry 5): whether, at power loss number `draw`, the byte at `offset` that was written
but not committed keeps its new value (R55: "It may be the old or the new value; a model draws it"). -/
opaque Config.keepsNewByte (draw offset : Nat) : Bool

end Sys2Proof
end

