-- ==== Sys2Proof/Machine/Bytes.lean ====
section
/-! DEFINITION. Byte order and byte buffers (spec 00_scope R11, 20_memory R52, R56). -/

namespace Sys2Proof.Machine

/-- `hi(v) = v[15:8]` (R11). -/
def hi (v : Half) : Byte := v.extractLsb' 8 8

/-- `lo(v) = v[7:0]` (R11). -/
def lo (v : Half) : Byte := v.extractLsb' 0 8

/-- `BE16(b0, b1) = (b0 << 8) | b1` (R11). -/
def be16 (b0 b1 : Byte) : Half := b0 ++ b1

/-- `BE32(b0, b1, b2, b3)` (R11). -/
def be32 (b0 b1 b2 b3 : Byte) : Word := b0 ++ b1 ++ b2 ++ b3

/-- A u16 as bytes, most significant first (R56). -/
def halfBytes (v : Half) : List Byte := [hi v, lo v]

/-- A u32 as bytes, most significant first (R56). -/
def wordBytes (v : Word) : List Byte :=
  [v.extractLsb' 24 8, v.extractLsb' 16 8, v.extractLsb' 8 8, v.extractLsb' 0 8]

/-- `buf[i]` (R11). No rule reads past a buffer's end; the model reads 0x00 there (log entry 7). -/
def byteAt (buf : List Byte) (i : Nat) : Byte := buf.getD i 0x00

/-- `BE16(buf[i], buf[i+1])`, a two-byte field at offset `i` (R80). -/
def halfAt (buf : List Byte) (i : Nat) : Half := be16 (byteAt buf i) (byteAt buf (i + 1))

/-- `BE32(buf[i..i+4))`. -/
def wordAt (buf : List Byte) (i : Nat) : Word :=
  be32 (byteAt buf i) (byteAt buf (i + 1)) (byteAt buf (i + 2)) (byteAt buf (i + 3))

/-- `buf[i] <- b0; buf[i+1] <- b1; …`: the bytes are written in ascending order. -/
def setBytes (buf : List Byte) (i : Nat) : List Byte → List Byte
  | [] => buf
  | b :: bs => setBytes (buf.set i b) (i + 1) bs

/-- `for k in i .. buf.length-1: buf[k] <- 0x00`. -/
def clearFrom (buf : List Byte) (i : Nat) : List Byte :=
  buf.take i ++ List.replicate (buf.length - i) 0x00

end Sys2Proof.Machine
end

