-- ==== Sys2Proof/Machine/CommandPort.lean ====
section
/-! DEFINITION. The command port's opcode map and frame lengths (spec 30_encoding R92 to R94, R100). -/

namespace Sys2Proof.Machine

/-- The length of a command frame that begins with `frame`'s bytes in an instance whose wire buffers have `b`
bytes (R94): fixed by the opcode, plus L for CRC16 and B for PROCESS (R100). None when the opcode byte is not in the
map of R93, or the frame is empty, or a CRC16 frame ends inside its L operand. -/
def commandLength (b : Nat) (frame : List Byte) : Option Nat :=
  match frame with
  | [] => none
  | op :: args =>
    if op = 0x01 then some 1
    else if op = 0x02 then some 3
    else if op = 0x08 then
      match args with
      | l1 :: l0 :: _ => some (7 + (be16 l1 l0).toNat)
      | _ => none
    else if op = 0x10 then some 5
    else if op = 0x11 then some 6
    else if op = 0x12 then some 8
    else if op = 0x13 then some 10
    else if op = 0x18 then some 1
    else if op = 0x20 then some (1 + b)
    else if op = 0x28 then some 1
    else if op = 0x30 then some 1
    else if op = 0x31 then some 1
    else if op = 0x32 then some 1
    else if op = 0x33 then some 1
    else if op = 0x34 then some 1
    else if op = 0x35 then some 1
    else none

end Sys2Proof.Machine
end

