-- ==== Sys2Proof/Syntax.lean ====
section
/-! DEFINITION. The commands of the block, one constructor per row of spec/opcode_table.json
(30_encoding R83, R88, R93, R94). -/

namespace Sys2Proof

/-- The header fields of a wire frame whose magic byte is right (R80), offsets 1 to 8. -/
structure WireHeader where
  /-- Source address, bytes 1-2. -/
  src : Half
  /-- Destination address, bytes 3-4. -/
  dst : Half
  /-- Reset counter, bytes 5-6. -/
  rst : Half
  /-- Message counter, bytes 7-8. -/
  msg : Half
  deriving DecidableEq, Repr

/-- One command of the host. The five `wire…` rows are PROCESS commands whose frame carries that message
type, with the frame's fields taken apart (log entry 6). -/
inductive Instr where
  /-- INIT (R200). -/
  | init
  /-- REGISTER_CB type, en (R203). -/
  | registerCb (type en : Byte)
  /-- CRC16 L, start, length, data (R122). -/
  | crc16 (l start length : Half) (data : List Byte)
  /-- BUILD_BEACON uptime (R131). -/
  | buildBeacon (uptime : Word)
  /-- BUILD_SET1 dest, level, a1 (R132). -/
  | buildSet1 (dest : Half) (level : Byte) (a1 : Half)
  /-- BUILD_SET2 dest, level, a1, a2 (R133). -/
  | buildSet2 (dest : Half) (level : Byte) (a1 a2 : Half)
  /-- BUILD_SET3 dest, level, a1, a2, a3 (R134). -/
  | buildSet3 (dest : Half) (level : Byte) (a1 a2 a3 : Half)
  /-- FINALIZE (R135). -/
  | finalize
  /-- PROCESS in (R150). -/
  | process (frame : List Byte)
  /-- DISPATCH (R190). -/
  | dispatch
  /-- QUERY_RX_SRC (R204). -/
  | queryRxSrc
  /-- QUERY_RX_DST (R205). -/
  | queryRxDst
  /-- QUERY_RX_TYPE (R206). -/
  | queryRxType
  /-- QUERY_RX_RST (R207). -/
  | queryRxRst
  /-- QUERY_RX_MSG (R208). -/
  | queryRxMsg
  /-- QUERY_RX_VALIDATION (R209). -/
  | queryRxValidation
  /-- A PROCESS frame of type 0x01 (R84): uptime, checksum, padding. -/
  | wireBeacon (h : WireHeader) (uptime : Word) (chk : Half) (pad : List Byte)
  /-- A PROCESS frame of type 0x10 (R85). -/
  | wireSetIndividual (h : WireHeader) (level : Byte) (a1 chk : Half) (pad : List Byte)
  /-- A PROCESS frame of type 0x11 (R86). -/
  | wireSetTwoIndividuals (h : WireHeader) (level : Byte) (a1 a2 chk : Half) (pad : List Byte)
  /-- A PROCESS frame of type 0x12 (R87). -/
  | wireSetThreeIndividuals (h : WireHeader) (level : Byte) (a1 a2 a3 chk : Half) (pad : List Byte)
  /-- A PROCESS frame of the reserved type 0x02 (R88): its bytes 10 to B-1 have no given layout. -/
  | wireDeviceStatusReserved (h : WireHeader) (rest : List Byte)
  /-- Any command frame that is illegal or malformed (R210). -/
  | illegalCommand (frame : List Byte)
  deriving DecidableEq, Repr

end Sys2Proof
end

