-- ==== Sys2Proof/Machine/Wire.lean ====
section
/-! DEFINITION. The wire frame (spec 30_encoding R80 to R91): constants, the message type table, the frame of
each wire row. -/

namespace Sys2Proof.Machine

/-- MAGIC (R8, R80). -/
def magic : Byte := 0xAA

/-- BROADCAST (R8, R91). -/
def broadcast : Half := 0xFFFF

/-- Header length (R8). -/
def headerLen : Nat := 10

/-- Checksum length (R8). -/
def checksumLen : Nat := 2

/-- The four supported message types (R83). -/
inductive MsgType where
  | beacon
  | set1
  | set2
  | set3
  deriving DecidableEq, Repr

/-- The type byte of a supported type (R83). -/
def MsgType.code : MsgType → Byte
  | .beacon => 0x01
  | .set1 => 0x10
  | .set2 => 0x11
  | .set3 => 0x12

/-- The supported type of a type byte; none for every other value, 0x02 included (R83, R88). -/
def MsgType.ofByte (t : Byte) : Option MsgType :=
  if t = 0x01 then some .beacon
  else if t = 0x10 then some .set1
  else if t = 0x11 then some .set2
  else if t = 0x12 then some .set3
  else none

/-- `PLEN`: the payload length N of a supported type (R83, R191). -/
def MsgType.payloadLen : MsgType → Nat
  | .beacon => 4
  | .set1 => 3
  | .set2 => 5
  | .set3 => 7

/-- The number of target addresses k of a type (R87, R191); a Beacon has none. -/
def MsgType.targets : MsgType → Nat
  | .beacon => 0
  | .set1 => 1
  | .set2 => 2
  | .set3 => 3

/-- Frame length 10 + N + 2 (R81). -/
def MsgType.frameLen (t : MsgType) : Nat := headerLen + t.payloadLen + checksumLen

/-- The type byte of the reserved message type Device-Status (R88). -/
def deviceStatusCode : Byte := 0x02

/-- Bytes 0 to 9 of a frame (R80). -/
def headerBytes (h : WireHeader) (type : Byte) : List Byte :=
  [magic, hi h.src, lo h.src, hi h.dst, lo h.dst, hi h.rst, lo h.rst, hi h.msg, lo h.msg, type]

/-- Beacon payload (R84). -/
def beaconPayload (uptime : Word) : List Byte := wordBytes uptime

/-- Set-Individual payload (R85). -/
def set1Payload (level : Byte) (a1 : Half) : List Byte := level :: halfBytes a1

/-- Set-Two-Individuals payload (R86). -/
def set2Payload (level : Byte) (a1 a2 : Half) : List Byte := level :: (halfBytes a1 ++ halfBytes a2)

/-- Set-Three-Individuals payload (R87). -/
def set3Payload (level : Byte) (a1 a2 a3 : Half) : List Byte :=
  level :: (halfBytes a1 ++ halfBytes a2 ++ halfBytes a3)

/-- The wire buffer of a message: header, payload, checksum, padding (R80, R89). -/
def frameBytes (h : WireHeader) (type : Byte) (payload : List Byte) (chk : Half) (pad : List Byte) : List Byte :=
  headerBytes h type ++ payload ++ halfBytes chk ++ pad

/-- The wire buffer of row WIRE_BEACON (R84). -/
def beaconFrame (h : WireHeader) (uptime : Word) (chk : Half) (pad : List Byte) : List Byte :=
  frameBytes h MsgType.beacon.code (beaconPayload uptime) chk pad

/-- The wire buffer of row WIRE_SET_INDIVIDUAL (R85). -/
def set1Frame (h : WireHeader) (level : Byte) (a1 chk : Half) (pad : List Byte) : List Byte :=
  frameBytes h MsgType.set1.code (set1Payload level a1) chk pad

/-- The wire buffer of row WIRE_SET_TWO_INDIVIDUALS (R86). -/
def set2Frame (h : WireHeader) (level : Byte) (a1 a2 chk : Half) (pad : List Byte) : List Byte :=
  frameBytes h MsgType.set2.code (set2Payload level a1 a2) chk pad

/-- The wire buffer of row WIRE_SET_THREE_INDIVIDUALS (R87). -/
def set3Frame (h : WireHeader) (level : Byte) (a1 a2 a3 chk : Half) (pad : List Byte) : List Byte :=
  frameBytes h MsgType.set3.code (set3Payload level a1 a2 a3) chk pad

/-- The wire buffer of row WIRE_DEVICE_STATUS_RESERVED (R88): no layout is given past byte 9. -/
def deviceStatusFrame (h : WireHeader) (rest : List Byte) : List Byte :=
  headerBytes h deviceStatusCode ++ rest

/-- Whether a wire buffer is one of the five `wire…` rows: magic byte right and type byte in the table of R83. -/
def isWireRow (f : List Byte) : Bool :=
  decide (10 ≤ f.length) && byteAt f 0 == magic &&
    ((MsgType.ofByte (byteAt f 9)).isSome || byteAt f 9 == deviceStatusCode)

end Sys2Proof.Machine
end

