-- ==== Sys2Proof/WellFormed.lean ====
section
/-! DEFINITION. Which commands stand for a command frame of an instance with `b`-byte wire buffers. -/

namespace Sys2Proof

/-- `wellFormed b i`: `i` is what the decoder of an instance with WIRE_BUF_SIZE = `b` reads from some frame.
CRC16's L counts its data bytes (R94); a PROCESS buffer has exactly B bytes (20_memory R52), its known types being the
`wire…` rows; an illegal command's frame has the length of no legal one (45_control R210). -/
def wellFormed (b : Nat) : Instr → Bool
  | .init => true
  | .registerCb _ _ => true
  | .crc16 l _ _ data => data.length == l.toNat
  | .buildBeacon _ => true
  | .buildSet1 _ _ _ => true
  | .buildSet2 _ _ _ _ => true
  | .buildSet3 _ _ _ _ _ => true
  | .finalize => true
  | .process frame => frame.length == b && !Machine.isWireRow frame
  | .dispatch => true
  | .queryRxSrc => true
  | .queryRxDst => true
  | .queryRxType => true
  | .queryRxRst => true
  | .queryRxMsg => true
  | .queryRxValidation => true
  | .wireBeacon _ _ _ pad => pad.length + Machine.MsgType.beacon.frameLen == b
  | .wireSetIndividual _ _ _ _ pad => pad.length + Machine.MsgType.set1.frameLen == b
  | .wireSetTwoIndividuals _ _ _ _ _ pad => pad.length + Machine.MsgType.set2.frameLen == b
  | .wireSetThreeIndividuals _ _ _ _ _ _ pad => pad.length + Machine.MsgType.set3.frameLen == b
  | .wireDeviceStatusReserved _ rest => rest.length + Machine.headerLen == b
  | .illegalCommand frame => Machine.commandLength b frame != some frame.length

end Sys2Proof
end

