-- ==== Sys2Proof/Decode.lean ====
section
/-! DEFINITION. Decoding and encoding command frames (spec 30_encoding R80, R92 to R94, R100; 45_control R210). -/

namespace Sys2Proof

open Machine

/-- A PROCESS command's wire buffer (opcode byte taken off): the `wire…` row of its type when its magic byte is
right and its type is in the table of R83, and PROCESS otherwise (log entry 6). -/
def decodeProcess (f : List Byte) : Instr :=
  match f with
  | m :: s1 :: s0 :: d1 :: d0 :: r1 :: r0 :: g1 :: g0 :: t :: rest =>
    let h : WireHeader := { src := be16 s1 s0, dst := be16 d1 d0, rst := be16 r1 r0, msg := be16 g1 g0 }
    if m = magic then
      if t = MsgType.beacon.code then
        match rest with
        | u3 :: u2 :: u1 :: u0 :: c1 :: c0 :: pad => .wireBeacon h (be32 u3 u2 u1 u0) (be16 c1 c0) pad
        | _ => .process f
      else if t = MsgType.set1.code then
        match rest with
        | lv :: x1 :: x0 :: c1 :: c0 :: pad => .wireSetIndividual h lv (be16 x1 x0) (be16 c1 c0) pad
        | _ => .process f
      else if t = MsgType.set2.code then
        match rest with
        | lv :: x1 :: x0 :: y1 :: y0 :: c1 :: c0 :: pad =>
          .wireSetTwoIndividuals h lv (be16 x1 x0) (be16 y1 y0) (be16 c1 c0) pad
        | _ => .process f
      else if t = MsgType.set3.code then
        match rest with
        | lv :: x1 :: x0 :: y1 :: y0 :: z1 :: z0 :: c1 :: c0 :: pad =>
          .wireSetThreeIndividuals h lv (be16 x1 x0) (be16 y1 y0) (be16 z1 z0) (be16 c1 c0) pad
        | _ => .process f
      else if t = deviceStatusCode then .wireDeviceStatusReserved h rest
      else .process f
    else .process f
  | _ => .process f

/-- The operand bytes of opcode `op` (R93, R94). None for an opcode not in the map, or operands of another length. -/
def decodeOperands (b : Nat) (op : Byte) (args : List Byte) : Option Instr :=
  if op = 0x01 then
    match args with
    | [] => some .init
    | _ => none
  else if op = 0x02 then
    match args with
    | [t, e] => some (.registerCb t e)
    | _ => none
  else if op = 0x08 then
    match args with
    | l1 :: l0 :: s1 :: s0 :: n1 :: n0 :: data =>
      if data.length = (be16 l1 l0).toNat then some (.crc16 (be16 l1 l0) (be16 s1 s0) (be16 n1 n0) data)
      else none
    | _ => none
  else if op = 0x10 then
    match args with
    | [u3, u2, u1, u0] => some (.buildBeacon (be32 u3 u2 u1 u0))
    | _ => none
  else if op = 0x11 then
    match args with
    | [d1, d0, lv, x1, x0] => some (.buildSet1 (be16 d1 d0) lv (be16 x1 x0))
    | _ => none
  else if op = 0x12 then
    match args with
    | [d1, d0, lv, x1, x0, y1, y0] => some (.buildSet2 (be16 d1 d0) lv (be16 x1 x0) (be16 y1 y0))
    | _ => none
  else if op = 0x13 then
    match args with
    | [d1, d0, lv, x1, x0, y1, y0, z1, z0] =>
      some (.buildSet3 (be16 d1 d0) lv (be16 x1 x0) (be16 y1 y0) (be16 z1 z0))
    | _ => none
  else if op = 0x18 then
    match args with
    | [] => some .finalize
    | _ => none
  else if op = 0x20 then
    if args.length = b then some (decodeProcess args) else none
  else if op = 0x28 then
    match args with
    | [] => some .dispatch
    | _ => none
  else if op = 0x30 then
    match args with
    | [] => some .queryRxSrc
    | _ => none
  else if op = 0x31 then
    match args with
    | [] => some .queryRxDst
    | _ => none
  else if op = 0x32 then
    match args with
    | [] => some .queryRxType
    | _ => none
  else if op = 0x33 then
    match args with
    | [] => some .queryRxRst
    | _ => none
  else if op = 0x34 then
    match args with
    | [] => some .queryRxMsg
    | _ => none
  else if op = 0x35 then
    match args with
    | [] => some .queryRxValidation
    | _ => none
  else none

/-- The decoder of an instance with `b`-byte wire buffers: total on any bytes. Whatever is no legal frame is
ILLEGAL_COMMAND, by name (R210); so is the empty frame, which has no opcode byte (log entry 8). -/
def decode (b : Nat) (frame : List Byte) : Instr :=
  match frame with
  | [] => .illegalCommand []
  | op :: args => (decodeOperands b op args).getD (.illegalCommand (op :: args))

/-- The command frame of a command (R94); of a `wire…` row, the PROCESS frame that carries it. -/
def encode : Instr → List Byte
  | .init => [0x01]
  | .registerCb t e => [0x02, t, e]
  | .crc16 l start length data => 0x08 :: (halfBytes l ++ halfBytes start ++ halfBytes length ++ data)
  | .buildBeacon uptime => 0x10 :: wordBytes uptime
  | .buildSet1 dest level a1 => 0x11 :: (halfBytes dest ++ [level] ++ halfBytes a1)
  | .buildSet2 dest level a1 a2 => 0x12 :: (halfBytes dest ++ [level] ++ halfBytes a1 ++ halfBytes a2)
  | .buildSet3 dest level a1 a2 a3 =>
    0x13 :: (halfBytes dest ++ [level] ++ halfBytes a1 ++ halfBytes a2 ++ halfBytes a3)
  | .finalize => [0x18]
  | .process frame => 0x20 :: frame
  | .dispatch => [0x28]
  | .queryRxSrc => [0x30]
  | .queryRxDst => [0x31]
  | .queryRxType => [0x32]
  | .queryRxRst => [0x33]
  | .queryRxMsg => [0x34]
  | .queryRxValidation => [0x35]
  | .wireBeacon h uptime chk pad => 0x20 :: beaconFrame h uptime chk pad
  | .wireSetIndividual h level a1 chk pad => 0x20 :: set1Frame h level a1 chk pad
  | .wireSetTwoIndividuals h level a1 a2 chk pad => 0x20 :: set2Frame h level a1 a2 chk pad
  | .wireSetThreeIndividuals h level a1 a2 a3 chk pad => 0x20 :: set3Frame h level a1 a2 a3 chk pad
  | .wireDeviceStatusReserved h rest => 0x20 :: deviceStatusFrame h rest
  | .illegalCommand frame => frame

/-- The first `n` bytes of a table word: byte k is bits 8k+7..8k. -/
def tableBytes (n w : Nat) : List Byte :=
  (List.range n).map fun k => BitVec.ofNat 8 (w >>> (8 * k))

/-- A table word as a command frame of an instance with `b`-byte wire buffers: its bytes, then zero operand bytes
up to the length its opcode has (R94). -/
def tableFrame (b nbits w : Nat) : List Byte :=
  let bytes := tableBytes (nbits / 8) w
  let full := (commandLength b (bytes ++ [0x00, 0x00])).getD bytes.length
  bytes ++ List.replicate (full - bytes.length) 0x00

/-- The instruction the decoder of the standard instance reads from a table word. -/
def decodeTableWord (nbits w : Nat) : Option Instr :=
  some (decode Config.standard.wireBufSize (tableFrame Config.standard.wireBufSize nbits w))

end Sys2Proof
end

