-- ==== Sys2Proof/Machine/State.lean ====
section
/-! DEFINITION. The state of the block, of its ports and of the storage agent (spec 10_state R20 to R41,
20_memory R50 to R55), as plain data, and the state after reset. -/

namespace Sys2Proof.Machine

/-- The status codes of R96, by name. The reserved codes 0x0E to 0xFF have no constructor: they are never produced (R97). -/
inductive Status where
  /-- ST_NONE: "nothing recorded". -/
  | none
  | success
  | addedNewAddress
  | atMaxAddresses
  | invalidResetCounter
  | invalidMessageCounter
  | invalidBuffer
  | wrongDestination
  | unknownType
  | checksumMismatch
  | notInitialized
  | noMessage
  | badRange
  | illegalCommand
  deriving DecidableEq, Repr

/-- One response on RSP: the status byte, then the result bytes (R95). -/
structure Response where
  status : Status
  results : List Byte
  deriving DecidableEq, Repr

/-- One event record on EVT (R98). -/
inductive Event where
  /-- EVENT_BEACON. -/
  | beacon (uptime : Word)
  /-- EVENT_SET. -/
  | set (type : Byte) (address : Half) (level : Byte)
  deriving DecidableEq, Repr

/-- One transaction on STO (R53). -/
inductive StTxn where
  | read (off : Nat)
  | write (off : Nat) (b : Byte)
  | commit
  deriving DecidableEq, Repr

/-- One thing the outside world does to the block, between two commands (R50, R243). -/
inductive Input where
  /-- The host issues a command frame on CMD (R51, R92). -/
  | command (frame : List Byte)
  /-- A power cycle; the storage agent keeps its committed content (R240). -/
  | powerCycle
  /-- A power cycle during which the storage is wiped or provisioned from outside with a new STORAGE_IMAGE (R242). -/
  | provision (image : List Byte)
  /-- The storage agent begins or ceases to answer (R232 (b)). -/
  | storageAgent (answers : Bool)
  deriving DecidableEq, Repr

/-- CB_EN, one bit per supported message type (R26). -/
structure CbEn where
  beacon : Bool
  set1 : Bool
  set2 : Bool
  set3 : Bool
  deriving DecidableEq, Repr

/-- Storage content: the bytes that differ from 0x00, by offset, offsets strictly rising.
An unlisted offset reads 0x00 (log entry 3). -/
abbrev Memory := List Host.Cell

/-- The block, its ports and its storage agent. -/
structure State where
  /-- CFG: the parameters of the instance (R8, R50); never written. -/
  cfg : Config
  /-- OWN_ADDR (R24), latched from CFG at reset. -/
  ownAddr : Half
  /-- INIT_DONE (R25). -/
  initDone : Bool
  /-- CB_EN (R26). -/
  cbEn : CbEn
  /-- OWN_MSG (R27). -/
  ownMsg : Half
  /-- OWN_RST (R28). -/
  ownRst : Half
  /-- TXBUF (R29), B bytes. -/
  txbuf : List Byte
  /-- TX_LEN (R30). -/
  txLen : Byte
  /-- PEER_COUNT (R31). -/
  peerCount : Byte
  /-- PEER_ADDR[0..P) (R32). -/
  peerAddr : List Half
  /-- PEER_RST[0..P) (R33). -/
  peerRst : List Half
  /-- PEER_MSG[0..P) (R34). -/
  peerMsg : List Half
  /-- RX_SRC (R36). -/
  rxSrc : Half
  /-- RX_DST (R36). -/
  rxDst : Half
  /-- RX_RST (R36). -/
  rxRst : Half
  /-- RX_MSG (R36). -/
  rxMsg : Half
  /-- RX_TYPE (R36). -/
  rxType : Byte
  /-- RX_VALIDATION (R37): a status code, by name. -/
  rxValidation : Status
  /-- RX_PAYLOAD (R38), 8 bytes. -/
  rxPayload : List Byte
  /-- RX_VALID (R39). -/
  rxValid : Bool
  /-- The storage agent's current content (R53). -/
  storage : Memory
  /-- The storage agent's durable content, as of the last StCommit (R53, R55). -/
  committed : Memory
  /-- Whether the storage agent answers transactions (R232 (b)). -/
  agentAnswers : Bool
  /-- What the outside world does next, oldest first (R50, R51). -/
  input : List Input
  /-- RSP: the response of the last command (R95); none before the first. -/
  rsp : Option Response
  /-- EVT: the event record of the last command, if any (R192). -/
  evt : Option Event
  /-- STO: the storage transactions of the last command, in order (R62). -/
  sto : List StTxn
  /-- The model's own: how many power cycles there were, which indexes the free value `Config.keepsNewByte` (log entry 5). -/
  draws : Nat
  deriving DecidableEq, Repr

/-- Why a step stops. The block has no fault of its own (R220); both reasons lie outside it. -/
inductive Fault where
  /-- STUCK: a command issued a storage transaction and the storage agent does not answer (R232 (b)).
  Raised by every command that touches storage. Safe. -/
  | storageAgentSilent
  /-- A storage transaction outside [S, S + 4P + 3), which the agent need not back (R54). Raised by no reachable state
  (peer entries lie below P); by a state whose PEER_COUNT exceeds P it may be. Safe. -/
  | storageOffsetUnbacked
  deriving DecidableEq, Repr

/-- Why a step is refused. -/
inductive Refusal where
  /-- An instruction without a meaning. No arm of `exec` answers it. Safe. -/
  | notModelled (mnemonic : String)
  /-- The parameters have no meaning: "A model refuses the instance" (R232 (a)). Raised by `step`. Safe. -/
  | illegalConfiguration
  deriving DecidableEq, Repr

/-- TXBUF at reset (R29): the magic byte and the own address, then zeros. -/
def resetTxbuf (c : Config) : List Byte :=
  [magic, hi c.ownAddr, lo c.ownAddr] ++ List.replicate (c.wireBufSize - 3) 0x00

/-- Power-on reset of an instance whose storage agent holds `content` (R40, R240). -/
def State.powerOn (c : Config) (content : Memory) : State :=
  { cfg := c
    ownAddr := c.ownAddr
    initDone := false
    cbEn := { beacon := false, set1 := false, set2 := false, set3 := false }
    ownMsg := 0
    ownRst := 0
    txbuf := resetTxbuf c
    txLen := 0
    peerCount := 0
    peerAddr := List.replicate c.peerCapacity 0
    peerRst := List.replicate c.peerCapacity 0
    peerMsg := List.replicate c.peerCapacity 0
    rxSrc := 0
    rxDst := 0
    rxRst := 0
    rxMsg := 0
    rxType := 0
    rxValidation := .none
    rxPayload := List.replicate 8 0x00
    rxValid := false
    storage := content
    committed := content
    agentAnswers := true
    input := []
    rsp := none
    evt := none
    sto := []
    draws := 0 }

/-- The machine right after reset: the standard instance (log entry 1), its storage all 0x00 (log entry 3),
no command pending (log entry 2). -/
def State.reset : State := State.powerOn Config.standard []

end Sys2Proof.Machine
end

