-- ==== Sys2Proof/Machine/Flags.lean ====
section
/-! DEFINITION. The status codes and the status flags INIT_DONE, CB_EN and RX_VALID (spec 30_encoding R96,
10_state R26, R41). The block has no condition codes (R41). -/

namespace Sys2Proof.Machine

/-- The code of a status (R96). -/
def Status.code : Status → Byte
  | .none => 0x00
  | .success => 0x01
  | .addedNewAddress => 0x02
  | .atMaxAddresses => 0x03
  | .invalidResetCounter => 0x04
  | .invalidMessageCounter => 0x05
  | .invalidBuffer => 0x06
  | .wrongDestination => 0x07
  | .unknownType => 0x08
  | .checksumMismatch => 0x09
  | .notInitialized => 0x0A
  | .noMessage => 0x0B
  | .badRange => 0x0C
  | .illegalCommand => 0x0D

/-- The accepting outcomes of the freshness check (42_parser R157). -/
def Status.accepting : Status → Bool
  | .success => true
  | .addedNewAddress => true
  | _ => false

/-- The CB_EN bit of a message type (R26). -/
def CbEn.get (e : CbEn) : MsgType → Bool
  | .beacon => e.beacon
  | .set1 => e.set1
  | .set2 => e.set2
  | .set3 => e.set3

/-- `CB_EN.<type> <- v` (45_control R203). -/
def CbEn.put (e : CbEn) (t : MsgType) (v : Bool) : CbEn :=
  match t with
  | .beacon => { e with beacon := v }
  | .set1 => { e with set1 := v }
  | .set2 => { e with set2 := v }
  | .set3 => { e with set3 := v }

end Sys2Proof.Machine
end

