-- ==== Sys2Proof/Machine/Operands.lean ====
section
/-! DEFINITION. Where operands lie: the header fields of a wire buffer (spec 30_encoding R80), the bytes of responses
and events (R95, R98) and the storage offsets (20_memory R54, R57). -/

namespace Sys2Proof.Machine

/-- `SRC(f)` (R80). -/
def frameSrc (f : List Byte) : Half := halfAt f 1

/-- `DST(f)` (R80). -/
def frameDst (f : List Byte) : Half := halfAt f 3

/-- `RST(f)` (R80). -/
def frameRst (f : List Byte) : Half := halfAt f 5

/-- `MSG(f)` (R80). -/
def frameMsg (f : List Byte) : Half := halfAt f 7

/-- `TYPE(f)` (R80). -/
def frameType (f : List Byte) : Byte := byteAt f 9

/-- `CHK(f, N)` (R80). -/
def frameChk (f : List Byte) (n : Nat) : Half := halfAt f (headerLen + n)

/-- The bytes `f[10..10+n)` of a payload (R80). -/
def framePayload (f : List Byte) (n : Nat) : List Byte := (f.drop headerLen).take n

/-- Offset of PEER_ADDR[i] (R57). -/
def peerAddrOff (c : Config) (i : Nat) : Nat := c.storageBase + 2 * i

/-- Offset of PEER_RST[i] (R57). -/
def peerRstOff (c : Config) (i : Nat) : Nat := c.storageBase + 2 * c.peerCapacity + 2 * i

/-- Offset of the peer count (R57). -/
def countOff (c : Config) : Nat := c.storageBase + 4 * c.peerCapacity

/-- Offset of the own reset counter (R57). -/
def ownRstOff (c : Config) : Nat := c.storageBase + 4 * c.peerCapacity + 1

/-- Size of the storage image, 4P + 3 bytes (R57). -/
def imageSize (c : Config) : Nat := 4 * c.peerCapacity + 3

/-- Whether the storage agent must back an offset (R54). -/
def backed (c : Config) (off : Nat) : Bool :=
  decide (c.storageBase ≤ off ∧ off < c.storageBase + imageSize c)

end Sys2Proof.Machine
end

