-- ==== Sys2Proof/Machine/Ops.lean ====
section
/-! DEFINITION. The shared operations: storage content, the storage port, ending a command, the power cycle
(spec 00_scope R12 to R14, 20_memory R53 to R63, 60_exceptions R220, 70_reset R240). The block takes no exception and
returns from none (R220, R225): an error ends the command through `raise`. -/

namespace Sys2Proof.Machine

/-! ### Storage content -/

/-- The canonical form of storage content: offsets strictly rising, no byte listed that an unlisted offset reads as. -/
abbrev Memory.wf (m : Memory) : Prop :=
  m.Pairwise (fun x y => x.1 < y.1) ∧ ∀ c ∈ m, c.2 ≠ 0x00

/-- The byte at an offset; an unlisted offset reads 0x00 (log entry 3). -/
def Memory.get (m : Memory) (a : Nat) : Byte :=
  match m with
  | [] => 0x00
  | (k, v) :: rest => if a = k then v else Memory.get rest a

/-- Sets the byte at an offset, keeping the canonical form. -/
def Memory.put (m : Memory) (a : Nat) (b : Byte) : Memory :=
  match m with
  | [] => if b = 0x00 then [] else [(a, b)]
  | (k, v) :: rest =>
    if a < k then (if b = 0x00 then (k, v) :: rest else (a, b) :: (k, v) :: rest)
    else if a = k then (if b = 0x00 then rest else (a, b) :: rest)
    else (k, v) :: Memory.put rest a b

/-- Sets consecutive bytes from an offset on. -/
def Memory.putBytes (m : Memory) (a : Nat) : List Byte → Memory
  | [] => m
  | b :: bs => Memory.putBytes (Memory.put m a b) (a + 1) bs

/-- `MemRead(off, 2)`: big-endian (R13, R56). -/
def Memory.getHalf (m : Memory) (a : Nat) : Half := be16 (Memory.get m a) (Memory.get m (a + 1))

/-- The content a STORAGE_IMAGE gives: its bytes at S, S+1, … up to 4P + 3 of them (R8). -/
def imageMemory (c : Config) (image : List Byte) : Memory :=
  Memory.putBytes [] c.storageBase (image.take (imageSize c))

/-- The content after power loss number `draw` (R55): the committed content, where a byte written but not committed
is the old or the new value, by a free value. -/
def powerLossContent (draw : Nat) (current committed : Memory) : Memory :=
  if current = committed then committed
  else (current.map (·.1) ++ committed.map (·.1)).foldl
    (fun m a => Memory.put m a
      (if Config.keepsNewByte draw a then Memory.get current a else Memory.get committed a)) committed

/-! ### The storage port -/

/-- Runs `k` on the next state, and passes a fault or a refusal on. -/
def andThen (o : Host.Outcome State Fault Refusal) (k : State → Host.Outcome State Fault Refusal) :
    Host.Outcome State Fault Refusal :=
  match o with
  | .next s => k s
  | .fault f => .fault f
  | .refused r => .refused r

/-- Whether a transaction's offset is one the agent must back (R54). -/
def StTxn.inRange (c : Config) : StTxn → Bool
  | .read off => backed c off
  | .write off _ => backed c off
  | .commit => true

/-- The current content after a transaction (R53: read-your-writes). -/
def StTxn.store (m : Memory) : StTxn → Memory
  | .read _ => m
  | .write off b => Memory.put m off b
  | .commit => m

/-- One transaction on STO (R53). A silent agent is the stuck case of R232 (b). -/
def transact (t : StTxn) (s : State) : Host.Outcome State Fault Refusal :=
  if !s.agentAnswers then .fault .storageAgentSilent
  else if !t.inRange s.cfg then .fault .storageOffsetUnbacked
  else .next
    { s with
      storage := t.store s.storage
      committed := if t = .commit then s.storage else s.committed
      sto := s.sto ++ [t] }

/-- Transactions in order (R62). -/
def issue : List StTxn → State → Host.Outcome State Fault Refusal
  | [], s => .next s
  | t :: ts, s => andThen (transact t s) (issue ts)

/-- `MemRead(off, 2)` as transactions (R13). -/
def readHalfTxns (off : Nat) : List StTxn := [.read off, .read (off + 1)]

/-- `MemWrite(off, 2, v)` as transactions: the most significant byte first, to the lowest offset (R13). -/
def writeHalfTxns (off : Nat) (v : Half) : List StTxn := [.write off (hi v), .write (off + 1) (lo v)]

/-! ### A command's beginning and end -/

/-- A command begins: the ports carry nothing of the command before (R51). -/
def State.beginCommand (s : State) : State := { s with rsp := none, evt := none, sto := [] }

/-- Places the one response of the command on RSP (R51, R95). -/
def State.respond (st : Status) (results : List Byte) (s : State) : State :=
  { s with rsp := some { status := st, results := results } }

/-- `finish STATUS(code)`, with the results the command put `out` (R14, R95). -/
def finish (st : Status) (results : List Byte) (s : State) : Host.Outcome State Fault Refusal :=
  .next (s.respond st results)

/-- `raise STATUS(code)`: the command ends at once, what it wrote is kept (R14), no result follows (R95). -/
def raise (st : Status) (s : State) : Host.Outcome State Fault Refusal := .next (s.respond st [])

/-- `emit EVENT(...)`: one record on EVT (R14, R192). -/
def State.emit (e : Event) (s : State) : State := { s with evt := some e }

/-- The bytes of a response: the status code, then the results (R95). -/
def Response.bytes (r : Response) : List Byte := r.status.code :: r.results

/-- The bytes of an event record (R98). -/
def Event.bytes : Event → List Byte
  | .beacon uptime => MsgType.beacon.code :: wordBytes uptime
  | .set type address level => type :: (halfBytes address ++ [level])

/-! ### Power cycle -/

/-- Power-on with the storage agent holding `content`, as a later event of the same run (R240): what lies outside the
block, the pending inputs and the agent's readiness, stays. -/
def State.restart (content : Memory) (s : State) : State :=
  { State.powerOn s.cfg content with
    agentAnswers := s.agentAnswers
    input := s.input
    draws := s.draws + 1 }

/-- A power cycle (R240): the storage agent's content becomes its committed content (R55). -/
def State.powerCycle (s : State) : State := s.restart (powerLossContent s.draws s.storage s.committed)

/-- A power cycle during which the storage is given a new image from outside (R242 step 2). -/
def State.provision (image : List Byte) (s : State) : State := s.restart (imageMemory s.cfg image)

/-- The storage agent begins or ceases to answer (R232 (b)). -/
def State.setAgent (answers : Bool) (s : State) : State := { s with agentAnswers := answers }

/-- Takes the oldest input off the queue. -/
def State.takeInput (s : State) : State := { s with input := s.input.tail }

end Sys2Proof.Machine
end

