-- ==== Sys2Proof/Machine/Control.lean ====
section
/-! DEFINITION. The control commands: INIT, REGISTER_CB, the queries, illegal commands (spec 45_control R200 to R210). -/

namespace Sys2Proof.Machine

/-- The count INIT uses (R201): a stored count above P is read as 0. -/
def loadedCount (s : State) : Nat :=
  if s.cfg.peerCapacity < (Memory.get s.storage (countOff s.cfg)).toNat then 0
  else (Memory.get s.storage (countOff s.cfg)).toNat

/-- `load_peer_table()` (R201). -/
def State.loadPeerTable (s : State) : State :=
  { s with
    peerAddr := (List.range s.cfg.peerCapacity).map fun i =>
      if i < loadedCount s then Memory.getHalf s.storage (peerAddrOff s.cfg i) else 0
    peerRst := (List.range s.cfg.peerCapacity).map fun i =>
      if i < loadedCount s then Memory.getHalf s.storage (peerRstOff s.cfg i) else 0
    peerMsg := List.replicate s.cfg.peerCapacity 0
    peerCount := BitVec.ofNat 8 (loadedCount s) }

/-- The own reset counter INIT installs (R200): the stored one plus 1 mod 2^16. -/
def nextOwnRst (s : State) : Half := Memory.getHalf s.storage (ownRstOff s.cfg) + 1

/-- INIT's storage transactions in order (R200): count, entries, own reset counter; then the new one, and a commit. -/
def initTxns (s : State) : List StTxn :=
  [.read (countOff s.cfg)] ++
  ((List.range (loadedCount s)).flatMap fun i =>
    readHalfTxns (peerAddrOff s.cfg i) ++ readHalfTxns (peerRstOff s.cfg i)) ++
  readHalfTxns (ownRstOff s.cfg) ++
  writeHalfTxns (ownRstOff s.cfg) (nextOwnRst s) ++ [.commit]

/-- The self-state and INIT_DONE after INIT (R200). -/
def State.completeInit (ownRst : Half) (s : State) : State :=
  { s with ownRst := ownRst, ownMsg := 0, initDone := true }

/-- INIT (R200, R202). -/
def execInit (s : State) : Host.Outcome State Fault Refusal :=
  if s.initDone then finish .success [] s.beginCommand
  else andThen (issue (initTxns s) (s.beginCommand.loadPeerTable.completeInit (nextOwnRst s))) (finish .success [])

/-- REGISTER_CB (R203): any `en` but 0x00 sets the bit. -/
def execRegisterCb (type en : Byte) (s : State) : Host.Outcome State Fault Refusal :=
  match MsgType.ofByte type with
  | none => raise .unknownType s.beginCommand
  | some t => finish .success [] { s.beginCommand with cbEn := s.cbEn.put t (en != 0x00) }

/-- QUERY_RX_SRC (R204). -/
def execQueryRxSrc (s : State) : Host.Outcome State Fault Refusal :=
  finish .success (halfBytes s.rxSrc) s.beginCommand

/-- QUERY_RX_DST (R205). -/
def execQueryRxDst (s : State) : Host.Outcome State Fault Refusal :=
  finish .success (halfBytes s.rxDst) s.beginCommand

/-- QUERY_RX_TYPE (R206). -/
def execQueryRxType (s : State) : Host.Outcome State Fault Refusal :=
  finish .success [s.rxType] s.beginCommand

/-- QUERY_RX_RST (R207). -/
def execQueryRxRst (s : State) : Host.Outcome State Fault Refusal :=
  finish .success (halfBytes s.rxRst) s.beginCommand

/-- QUERY_RX_MSG (R208). -/
def execQueryRxMsg (s : State) : Host.Outcome State Fault Refusal :=
  finish .success (halfBytes s.rxMsg) s.beginCommand

/-- QUERY_RX_VALIDATION (R209). -/
def execQueryRxValidation (s : State) : Host.Outcome State Fault Refusal :=
  finish .success [s.rxValidation.code] s.beginCommand

/-- An illegal or malformed command (R210): answered, and nothing else. -/
def execIllegalCommand (_frame : List Byte) (s : State) : Host.Outcome State Fault Refusal :=
  raise .illegalCommand s.beginCommand

end Sys2Proof.Machine
end

