-- ==== Sys2Proof/Machine/EventPort.lean ====
section
/-! DEFINITION. DISPATCH and the event port (spec 44_dispatch R190 to R194). -/

namespace Sys2Proof.Machine

/-- Target address j of a Set payload (R87, R193). -/
def targetAddr (payload : List Byte) (j : Nat) : Half := halfAt payload (1 + 2 * j)

/-- Whether one of the first `k` targets is `own` (R193). -/
def targetHit (own : Half) (payload : List Byte) (k : Nat) : Bool :=
  (List.range k).any fun j => targetAddr payload j == own

/-- `dispatch_set(k, en)` (R193). -/
def dispatchSet (k : Nat) (en : Bool) (s : State) : State :=
  if targetHit s.ownAddr s.rxPayload k && en then s.emit (.set s.rxType s.ownAddr (byteAt s.rxPayload 0)) else s

/-- The Beacon action (R194). -/
def dispatchBeacon (en : Bool) (s : State) : State :=
  if en then s.emit (.beacon (wordAt s.rxPayload 0)) else s

/-- The action the type byte selects (R190, R191). RX_TYPE is a supported type whenever RX_VALID = 1, so an unsupported
type, DEDUCED (log entry 14), selects no action. -/
def dispatchAction (s : State) : State :=
  match MsgType.ofByte s.rxType with
  | some .beacon => dispatchBeacon (s.cbEn.get .beacon) s
  | some .set1 => dispatchSet MsgType.set1.targets (s.cbEn.get .set1) s
  | some .set2 => dispatchSet MsgType.set2.targets (s.cbEn.get .set2) s
  | some .set3 => dispatchSet MsgType.set3.targets (s.cbEn.get .set3) s
  | none => s

/-- `RX_VALID <- 0` (R190). -/
def State.consume (s : State) : State := { s with rxValid := false }

/-- DISPATCH (R190). -/
def execDispatch (s : State) : Host.Outcome State Fault Refusal :=
  if !s.rxValid then raise .noMessage s.beginCommand
  else finish .success [] (dispatchAction s.beginCommand.consume)

end Sys2Proof.Machine
end

