-- ==== Sys2Proof/Machine/Crc.lean ====
section
/-! DEFINITION. The CRC-16 generator and its command (spec 40_crc R120, R122). -/

namespace Sys2Proof.Machine

/-- The generator polynomial (R120). -/
def crcPoly : Half := 0x1021

/-- One of the eight shifts of R120. -/
def crcShift (c : Half) : Half :=
  if c.getLsbD 15 then (c <<< 1) ^^^ crcPoly else c <<< 1

/-- `n` shifts. -/
def crcShifts : Nat → Half → Half
  | 0, c => c
  | n + 1, c => crcShifts n (crcShift c)

/-- One byte of R120: it enters bits 15 to 8, then eight shifts. -/
def crcByte (c : Half) (b : Byte) : Half := crcShifts 8 (c ^^^ (b ++ (0 : Byte)))

/-- The CRC register after a byte string, from register value `c`. -/
def crcFrom (c : Half) (bytes : List Byte) : Half := bytes.foldl crcByte c

/-- `crc16(data, start, length)` (R120): initial value 0x0000, increasing index, no final exclusive-or. DESIGN CHOICE (log
entry 17): a range that runs past the data, which no command computes, covers the bytes there are; the spec gives it no
value. -/
def crc16 (data : List Byte) (start length : Nat) : Half := crcFrom 0x0000 ((data.drop start).take length)

/-- CRC16 (R122). The range is compared without 16-bit wrap. -/
def execCrc16 (l start length : Half) (data : List Byte) (s : State) : Host.Outcome State Fault Refusal :=
  if l.toNat < start.toNat + length.toNat then raise .badRange s.beginCommand
  else finish .success (halfBytes (crc16 data start.toNat length.toNat)) s.beginCommand

end Sys2Proof.Machine
end

