-- ==== Sys2Proof/Machine/Framer.lean ====
section
/-! DEFINITION. The message framer: builders and finalization (spec 41_framer R130 to R138). -/

namespace Sys2Proof.Machine

/-- The TXBUF of `build(t, d, p)` (R130): cleared but for magic and source, then destination, type, payload. -/
def builtTxbuf (t : MsgType) (d : Half) (p : List Byte) (txbuf : List Byte) : List Byte :=
  setBytes (setBytes (setBytes (clearFrom txbuf 3) 3 (halfBytes d)) 9 [t.code]) headerLen p

/-- `build(t, d, p)` (R130). -/
def build (t : MsgType) (d : Half) (p : List Byte) (s : State) : Host.Outcome State Fault Refusal :=
  finish .success []
    { s with txbuf := builtTxbuf t d p s.txbuf, txLen := BitVec.ofNat 8 t.frameLen }

/-- BUILD_BEACON (R131): always to broadcast. -/
def execBuildBeacon (uptime : Word) (s : State) : Host.Outcome State Fault Refusal :=
  build .beacon broadcast (beaconPayload uptime) s.beginCommand

/-- BUILD_SET1 (R132). -/
def execBuildSet1 (dest : Half) (level : Byte) (a1 : Half) (s : State) : Host.Outcome State Fault Refusal :=
  build .set1 dest (set1Payload level a1) s.beginCommand

/-- BUILD_SET2 (R133). -/
def execBuildSet2 (dest : Half) (level : Byte) (a1 a2 : Half) (s : State) : Host.Outcome State Fault Refusal :=
  build .set2 dest (set2Payload level a1 a2) s.beginCommand

/-- BUILD_SET3 (R134). -/
def execBuildSet3 (dest : Half) (level : Byte) (a1 a2 a3 : Half) (s : State) : Host.Outcome State Fault Refusal :=
  build .set3 dest (set3Payload level a1 a2 a3) s.beginCommand

/-- `advance_own_counters()` (R136): on overflow the message counter passes through 0 and the reset counter goes up by
one mod 2^16 and is persisted at once. -/
def advanceOwnCounters (s : State) : Host.Outcome State Fault Refusal :=
  if s.ownMsg = 0xFFFF then
    issue (writeHalfTxns (ownRstOff s.cfg) (s.ownRst + 1) ++ [.commit])
      { s with ownMsg := 0x0000 + 1, ownRst := s.ownRst + 1 }
  else .next { s with ownMsg := s.ownMsg + 1 }

/-- TXBUF with the counters stamped (R135 step 2). -/
def stampCounters (rst msg : Half) (txbuf : List Byte) : List Byte :=
  setBytes txbuf 5 (halfBytes rst ++ halfBytes msg)

/-- `stamp_checksum()` (R137). -/
def stampChecksum (len : Nat) (txbuf : List Byte) : List Byte :=
  setBytes txbuf (len - 2) (halfBytes (crc16 txbuf 0 (len - 2)))

/-- The buffer FINALIZE puts out: counters, then checksum (R135 steps 2 and 3). -/
def finalFrame (rst msg : Half) (len : Nat) (txbuf : List Byte) : List Byte :=
  stampChecksum len (stampCounters rst msg txbuf)

/-- FINALIZE steps 2 to 5 (R135, R138). -/
def emitFrame (s : State) : Host.Outcome State Fault Refusal :=
  finish .success (s.txLen :: finalFrame s.ownRst s.ownMsg s.txLen.toNat s.txbuf)
    { s with txbuf := clearFrom s.txbuf 3, txLen := 0 }

/-- FINALIZE (R135). -/
def execFinalize (s : State) : Host.Outcome State Fault Refusal :=
  if !s.initDone then raise .notInitialized s.beginCommand
  else if s.txLen = 0 then raise .noMessage s.beginCommand
  else andThen (advanceOwnCounters s.beginCommand) emitFrame

end Sys2Proof.Machine
end

