-- ==== Sys2Proof/Machine/AntiReplay.lean ====
section
/-! DEFINITION. The anti-replay state machine `check_and_update` (spec 43_antireplay R170 to R179). -/

namespace Sys2Proof.Machine

/-- `lookup(a)` (R171): the first index below PEER_COUNT whose address is `a`. -/
def lookup (s : State) (a : Half) : Option Nat := (s.peerAddr.take s.peerCount.toNat).findIdx? (· == a)

/-- The rows of the comparator truth table (R179); `i` is the found index. -/
inductive Freshness where
  /-- Unknown peer, table not full (R172). -/
  | add
  /-- Unknown peer, table full (R173). -/
  | full
  /-- Known peer, higher reset counter (R174). -/
  | restart (i : Nat)
  /-- Known peer, lower reset counter (R175). -/
  | stale
  /-- Known peer, equal reset counter, higher message counter (R177). -/
  | advance (i : Nat)
  /-- Known peer, equal reset counter, message counter not higher (R177). -/
  | replay
  deriving DecidableEq, Repr

/-- The comparator (R179): unsigned 16-bit comparisons (R170). -/
def classify (a r m : Half) (s : State) : Freshness :=
  match lookup s a with
  | none => if s.peerCount.toNat < s.cfg.peerCapacity then .add else .full
  | some i =>
    if s.peerRst.getD i 0 < r then .restart i
    else if r < s.peerRst.getD i 0 then .stale
    else if s.peerMsg.getD i 0 < m then .advance i
    else .replay

/-- The outcome of a row (R179). -/
def Freshness.status : Freshness → Status
  | .add => .addedNewAddress
  | .full => .atMaxAddresses
  | .restart _ => .success
  | .stale => .invalidResetCounter
  | .advance _ => .success
  | .replay => .invalidMessageCounter

/-- The storage transactions of a row, in order (R178); `n` is PEER_COUNT before the update. -/
def Freshness.txns (c : Config) (n : Byte) (a r : Half) : Freshness → List StTxn
  | .add => writeHalfTxns (peerAddrOff c n.toNat) a ++ writeHalfTxns (peerRstOff c n.toNat) r ++
      [.write (countOff c) (n + 1), .commit]
  | .full => []
  | .restart i => writeHalfTxns (peerRstOff c i) r ++ [.commit]
  | .stale => []
  | .advance _ => []
  | .replay => []

/-- The peer table after a row (R172 to R177). -/
def Freshness.updateTable (a r m : Half) (s : State) : Freshness → State
  | .add =>
    { s with
      peerAddr := s.peerAddr.set s.peerCount.toNat a
      peerRst := s.peerRst.set s.peerCount.toNat r
      peerMsg := s.peerMsg.set s.peerCount.toNat m
      peerCount := s.peerCount + 1 }
  | .full => s
  | .restart i => { s with peerRst := s.peerRst.set i r, peerMsg := s.peerMsg.set i m }
  | .stale => s
  | .advance i => { s with peerMsg := s.peerMsg.set i m }
  | .replay => s

/-- `check_and_update(a, r, m)` (R170): the table, then the storage. Its outcome is `(classify a r m s).status`. -/
def checkAndUpdate (a r m : Half) (s : State) : Host.Outcome State Fault Refusal :=
  issue ((classify a r m s).txns s.cfg s.peerCount a r) ((classify a r m s).updateTable a r m s)

end Sys2Proof.Machine
end

