-- ==== Sys2Proof/Machine/Parser.lean ====
section
/-! DEFINITION. The message parser PROCESS, and the wire rows that reach it (spec 42_parser R150 to R158,
30_encoding R84 to R88). -/

namespace Sys2Proof.Machine

/-- The start-of-command clears (R151). -/
def State.clearRx (s : State) : State :=
  { s with rxValid := false, rxValidation := .none, rxPayload := List.replicate 8 0x00 }

/-- The header registers after a bad magic byte (R150 step 1). -/
def State.zeroHeader (s : State) : State :=
  { s with rxSrc := 0, rxDst := 0, rxRst := 0, rxMsg := 0, rxType := 0 }

/-- The header registers after extraction (R150 step 2). -/
def State.loadHeader (f : List Byte) (s : State) : State :=
  { s with
    rxSrc := frameSrc f, rxDst := frameDst f, rxRst := frameRst f, rxMsg := frameMsg f
    rxType := frameType f }

/-- `RX_VALIDATION <- f` (R150 step 4). -/
def State.recordValidation (v : Status) (s : State) : State := { s with rxValidation := v }

/-- `for k in 0..N-1: RX_PAYLOAD[k] <- in[10+k]` (R150 step 6). -/
def State.stagePayload (f : List Byte) (n : Nat) (s : State) : State :=
  { s with rxPayload := setBytes s.rxPayload 0 (framePayload f n) }

/-- `RX_VALID <- 1` (R150 step 8). -/
def State.markValid (s : State) : State := { s with rxValid := true }

/-- The destination filter (R150 step 3). -/
def destinationOk (own dst : Half) : Bool := dst == own || dst == broadcast

/-- The checksum comparison (R150 step 7). -/
def checksumOk (f : List Byte) (n : Nat) : Bool := crc16 f 0 (headerLen + n) == frameChk f n

/-- PROCESS steps 5 to 8, after a freshness check that gave `v` (R150). -/
def judge (f : List Byte) (v : Status) (s : State) : Host.Outcome State Fault Refusal :=
  match MsgType.ofByte s.rxType with
  | none => raise .unknownType s
  | some t =>
    if !checksumOk f t.payloadLen then raise .checksumMismatch (s.stagePayload f t.payloadLen)
    else if v.accepting then finish .success [] (s.stagePayload f t.payloadLen).markValid
    else raise v (s.stagePayload f t.payloadLen)

/-- PROCESS step 4 on a state whose header registers are loaded, and what follows it (R150, R154). -/
def checkFreshness (f : List Byte) (s : State) : Host.Outcome State Fault Refusal :=
  andThen (checkAndUpdate s.rxSrc s.rxRst s.rxMsg s) fun t =>
    judge f (classify s.rxSrc s.rxRst s.rxMsg s).status
      (t.recordValidation (classify s.rxSrc s.rxRst s.rxMsg s).status)

/-- PROCESS of a wire buffer (R150). -/
def processFrame (f : List Byte) (s : State) : Host.Outcome State Fault Refusal :=
  if !s.initDone then raise .notInitialized s
  else if byteAt f 0 ≠ magic then raise .invalidBuffer s.clearRx.zeroHeader
  else if !destinationOk s.ownAddr (frameDst f) then raise .wrongDestination (s.clearRx.loadHeader f)
  else checkFreshness f (s.clearRx.loadHeader f)

/-- PROCESS (R150). -/
def execProcess (frame : List Byte) (s : State) : Host.Outcome State Fault Refusal :=
  processFrame frame s.beginCommand

/-- PROCESS of a Beacon frame (R84, R150). -/
def execWireBeacon (h : WireHeader) (uptime : Word) (chk : Half) (pad : List Byte) (s : State) :
    Host.Outcome State Fault Refusal :=
  processFrame (beaconFrame h uptime chk pad) s.beginCommand

/-- PROCESS of a Set-Individual frame (R85, R150). -/
def execWireSetIndividual (h : WireHeader) (level : Byte) (a1 chk : Half) (pad : List Byte) (s : State) :
    Host.Outcome State Fault Refusal :=
  processFrame (set1Frame h level a1 chk pad) s.beginCommand

/-- PROCESS of a Set-Two-Individuals frame (R86, R150). -/
def execWireSetTwoIndividuals (h : WireHeader) (level : Byte) (a1 a2 chk : Half) (pad : List Byte) (s : State) :
    Host.Outcome State Fault Refusal :=
  processFrame (set2Frame h level a1 a2 chk pad) s.beginCommand

/-- PROCESS of a Set-Three-Individuals frame (R87, R150). -/
def execWireSetThreeIndividuals (h : WireHeader) (level : Byte) (a1 a2 a3 chk : Half) (pad : List Byte) (s : State) :
    Host.Outcome State Fault Refusal :=
  processFrame (set3Frame h level a1 a2 a3 chk pad) s.beginCommand

/-- PROCESS of a frame of the reserved type 0x02 (R88): the parser treats it as an unrecognised type. -/
def execWireDeviceStatusReserved (h : WireHeader) (rest : List Byte) (s : State) :
    Host.Outcome State Fault Refusal :=
  processFrame (deviceStatusFrame h rest) s.beginCommand

end Sys2Proof.Machine
end

