-- ==== Sys2Proof/Machine/Dispatch.lean ====
section
/-! DEFINITION. One arm per constructor of Instr. -/

namespace Sys2Proof.Machine

def exec (i : Instr) (s : State) : Host.Outcome State Fault Refusal :=
  match i with
  | .init => Sys2Proof.Machine.execInit s
  | .registerCb type en => Sys2Proof.Machine.execRegisterCb type en s
  | .crc16 l start length data => Sys2Proof.Machine.execCrc16 l start length data s
  | .buildBeacon uptime => Sys2Proof.Machine.execBuildBeacon uptime s
  | .buildSet1 dest level a1 => Sys2Proof.Machine.execBuildSet1 dest level a1 s
  | .buildSet2 dest level a1 a2 => Sys2Proof.Machine.execBuildSet2 dest level a1 a2 s
  | .buildSet3 dest level a1 a2 a3 => Sys2Proof.Machine.execBuildSet3 dest level a1 a2 a3 s
  | .finalize => Sys2Proof.Machine.execFinalize s
  | .process frame => Sys2Proof.Machine.execProcess frame s
  | .dispatch => Sys2Proof.Machine.execDispatch s
  | .queryRxSrc => Sys2Proof.Machine.execQueryRxSrc s
  | .queryRxDst => Sys2Proof.Machine.execQueryRxDst s
  | .queryRxType => Sys2Proof.Machine.execQueryRxType s
  | .queryRxRst => Sys2Proof.Machine.execQueryRxRst s
  | .queryRxMsg => Sys2Proof.Machine.execQueryRxMsg s
  | .queryRxValidation => Sys2Proof.Machine.execQueryRxValidation s
  | .wireBeacon h uptime chk pad => Sys2Proof.Machine.execWireBeacon h uptime chk pad s
  | .wireSetIndividual h level a1 chk pad => Sys2Proof.Machine.execWireSetIndividual h level a1 chk pad s
  | .wireSetTwoIndividuals h level a1 a2 chk pad => Sys2Proof.Machine.execWireSetTwoIndividuals h level a1 a2 chk pad s
  | .wireSetThreeIndividuals h level a1 a2 a3 chk pad => Sys2Proof.Machine.execWireSetThreeIndividuals h level a1 a2 a3 chk pad s
  | .wireDeviceStatusReserved h rest => Sys2Proof.Machine.execWireDeviceStatusReserved h rest s
  | .illegalCommand frame => Sys2Proof.Machine.execIllegalCommand frame s

end Sys2Proof.Machine
end

