-- ==== Sys2Proof/Machine/Fetch.lean ====
section
/-! DEFINITION. What a step does with the oldest input (spec 20_memory R51, 70_reset R240, 60_exceptions R232). -/

namespace Sys2Proof.Machine

/-- The effect of one input, taken off the queue already. The block fetches no instructions (10_state R23): the next
command is the frame the host issued. -/
def perform (i : Input) (s : State) : Host.Outcome State Fault Refusal :=
  match i with
  | .command frame => exec (decode s.cfg.wireBufSize frame) s
  | .powerCycle => .next s.powerCycle
  | .provision image => .next (s.provision image)
  | .storageAgent answers => .next (s.setAgent answers)

/-- The oldest input of a configured block; with none pending the block waits, unchanged (R51, log entry 9). -/
def performNext (s : State) : Host.Outcome State Fault Refusal :=
  match s.input with
  | [] => .next s
  | i :: _ => perform i s.takeInput

/-- The command frame `frame` becomes the next input. -/
def State.pushCommand (frame : List Byte) (s : State) : State := { s with input := .command frame :: s.input }

end Sys2Proof.Machine
end

