-- ==== Sys2Proof/Machine/Step.lean ====
section
/-! DEFINITION. One step: one input performed (spec 20_memory R51, 60_exceptions R232). -/

namespace Sys2Proof.Machine

/-- One step. An instance whose parameters have no meaning is refused (R232 (a)). -/
def step (s : State) : Host.Outcome State Fault Refusal :=
  if s.cfg.legal then performNext s else .refused .illegalConfiguration

/-- `s` with the command of a table word (its operand bytes zero) as its next input (log entry 2). -/
def State.withFetchWord (s : State) (nbits w : Nat) : State :=
  s.pushCommand (tableFrame s.cfg.wireBufSize nbits w)

end Sys2Proof.Machine
end

