-- ==== Sys2Proof/Safety.lean ====
section
/-! DEFINITION. The terms claims use: the invariant of a block in service, runs of commands, and the spec's second
forms of things the machine defines once. -/

namespace Sys2Proof.Machine

/-- PEER_ADDR[i], PEER_RST[i], PEER_MSG[i] as the storage image and the table hold them (R35 (c)): the entry's two
regions equal the block's copy. -/
def entryImaged (s : State) (i : Nat) : Prop :=
  Memory.getHalf s.storage (peerAddrOff s.cfg i) = s.peerAddr.getD i 0 ∧
  Memory.getHalf s.storage (peerRstOff s.cfg i) = s.peerRst.getD i 0

/-- R35 (c) for the count, with its one exception: a stored count above P that INIT read as 0. -/
def countImaged (s : State) : Prop :=
  Memory.get s.storage (countOff s.cfg) = s.peerCount ∨
  (s.peerCount = 0 ∧ s.cfg.peerCapacity < (Memory.get s.storage (countOff s.cfg)).toNat)

/-- The invariant every step keeps: what the spec says of the state elements between commands. -/
structure State.Inv (s : State) : Prop where
  /-- R24: OWN_ADDR is the configured value. -/
  own_addr : s.ownAddr = s.cfg.ownAddr
  /-- R29: TXBUF has B bytes. -/
  txbuf_length : s.txbuf.length = s.cfg.wireBufSize
  /-- R29: "TXBUF[0] is always 0xAA. TXBUF[1..3) is always hi(OWN_ADDR), lo(OWN_ADDR)." -/
  txbuf_fixed : s.txbuf.take 3 = [magic, hi s.ownAddr, lo s.ownAddr]
  /-- R30: TX_LEN is 0 or the frame length of the built type. -/
  tx_len : s.txLen = 0 ∨
    (MsgType.ofByte (byteAt s.txbuf 9)).any (fun t => s.txLen == BitVec.ofNat 8 t.frameLen) = true
  /-- R89, R130: the padding of a built message, and the whole buffer when nothing is built, is 0. -/
  tx_padding : ∀ b ∈ s.txbuf.drop (max 3 s.txLen.toNat), b = 0x00
  /-- R130: the counter bytes are 0 until FINALIZE stamps them. -/
  tx_counters : ∀ b ∈ (s.txbuf.drop 5).take 4, b = 0x00
  /-- R130: the checksum bytes are 0 until FINALIZE stamps them. -/
  tx_checksum : s.txLen ≠ 0 → ∀ b ∈ (s.txbuf.drop (s.txLen.toNat - 2)).take 2, b = 0x00
  /-- R35 (a). -/
  count_le : s.peerCount.toNat ≤ s.cfg.peerCapacity
  /-- R32 to R34: the table has P entries. -/
  peer_lengths : s.peerAddr.length = s.cfg.peerCapacity ∧ s.peerRst.length = s.cfg.peerCapacity ∧
    s.peerMsg.length = s.cfg.peerCapacity
  /-- R35 (b). -/
  peer_unused : (∀ v ∈ s.peerAddr.drop s.peerCount.toNat, v = 0) ∧
    (∀ v ∈ s.peerRst.drop s.peerCount.toNat, v = 0) ∧ (∀ v ∈ s.peerMsg.drop s.peerCount.toNat, v = 0)
  /-- R38: 8 bytes, 0 past the payload of RX_TYPE. -/
  rx_payload : s.rxPayload.length = 8 ∧
    ∀ b ∈ s.rxPayload.drop (((MsgType.ofByte s.rxType).map MsgType.payloadLen).getD 0), b = 0x00
  /-- R37: RX_VALIDATION is NONE or a freshness outcome. -/
  rx_validation : s.rxValidation = .none ∨ s.rxValidation = .success ∨ s.rxValidation = .addedNewAddress ∨
    s.rxValidation = .atMaxAddresses ∨ s.rxValidation = .invalidResetCounter ∨
    s.rxValidation = .invalidMessageCounter
  /-- R190, R157: a pending message has a supported type, an accepting outcome and an acceptable destination. -/
  rx_valid : s.rxValid = true → s.initDone = true ∧ (MsgType.ofByte s.rxType).isSome = true ∧
    s.rxValidation.accepting = true ∧ destinationOk s.ownAddr s.rxDst = true
  /-- R27, R28, R31, R36: until INIT the counters, the table and the RX registers hold their reset values. -/
  before_init : s.initDone = false → s.ownMsg = 0 ∧ s.ownRst = 0 ∧ s.peerCount = 0 ∧
    s.rxSrc = 0 ∧ s.rxDst = 0 ∧ s.rxRst = 0 ∧ s.rxMsg = 0 ∧ s.rxType = 0 ∧ s.rxValidation = .none
  /-- The storage content is in canonical form. -/
  storage_wf : Memory.wf s.storage
  /-- R55: "no command completes with uncommitted writes". -/
  all_committed : s.committed = s.storage
  /-- R35 (c), and R28's persistence of OWN_RST. -/
  imaged : s.initDone = true → countImaged s ∧ (∀ i, i < s.peerCount.toNat → entryImaged s i) ∧
    Memory.getHalf s.storage (ownRstOff s.cfg) = s.ownRst

/-- A sequence of commands, one step each; it stops at the first fault or refusal. -/
def runAll : List Instr → State → Host.Outcome State Fault Refusal
  | [], s => .next s
  | i :: is, s => andThen (exec i s) (runAll is)

/-- The commands of a run with the state each leaves, up to the first that does not complete. -/
def trace : List Instr → State → List (Instr × State)
  | [], _ => []
  | i :: is, s =>
    match exec i s with
    | .next t => (i, t) :: trace is t
    | .fault _ => []
    | .refused _ => []

/-- The four builders (41_framer R131 to R134). -/
def isBuild : Instr → Bool
  | .buildBeacon _ => true
  | .buildSet1 _ _ _ => true
  | .buildSet2 _ _ _ _ => true
  | .buildSet3 _ _ _ _ _ => true
  | _ => false

/-- What a builder builds: message type, destination, payload (R131 to R134). -/
def buildParts : Instr → Option (MsgType × Half × List Byte)
  | .buildBeacon uptime => some (.beacon, broadcast, beaconPayload uptime)
  | .buildSet1 dest level a1 => some (.set1, dest, set1Payload level a1)
  | .buildSet2 dest level a1 a2 => some (.set2, dest, set2Payload level a1 a2)
  | .buildSet3 dest level a1 a2 a3 => some (.set3, dest, set3Payload level a1 a2 a3)
  | _ => none

/-- The rows that are PROCESS commands (R150): PROCESS and the wire rows. -/
def isProcess : Instr → Bool
  | .process _ => true
  | .wireBeacon _ _ _ _ => true
  | .wireSetIndividual _ _ _ _ _ => true
  | .wireSetTwoIndividuals _ _ _ _ _ _ => true
  | .wireSetThreeIndividuals _ _ _ _ _ _ _ => true
  | .wireDeviceStatusReserved _ _ => true
  | _ => false

/-- Whether the last command answered ST_SUCCESS. -/
def State.succeeded (s : State) : Bool := s.rsp.map Response.status == some .success

/-- One bit of R121: `t <- c[15] ^ b[j]; c <- (c << 1) mod 2^16; if t == 1: c <- c ^ 0x1021`. -/
def crcSerialBit (b : Byte) (c : Half) (j : Nat) : Half :=
  if (c.getLsbD 15 ^^ b.getLsbD j) then (c <<< 1) ^^^ 0x1021 else c <<< 1

/-- The per-bit form of R121: each byte from bit 7 down to bit 0. -/
def crcSerial (bytes : List Byte) : Half :=
  bytes.foldl (fun c b => [7, 6, 5, 4, 3, 2, 1, 0].foldl (crcSerialBit b) c) 0x0000

/-- `(r', m') ≤ (r, m)` lexicographically (R180), unsigned. -/
def pairLe (r' m' r m : Half) : Prop := r' < r ∨ (r' = r ∧ m' ≤ m)

/-- `(r', m') < (r, m)` lexicographically (R139). -/
def pairLt (r' m' r m : Half) : Prop := r' < r ∨ (r' = r ∧ m' < m)

end Sys2Proof.Machine
end

