-- ==== Sys2Proof/Certificates/Slice0/Obligations.lean ====
section
/-! DEFINITION. What is claimed of the WiLP block; proved elsewhere. -/

open Sys2Proof Sys2Proof.Machine

/-! ### Encoding -/

/-- No bit of a command frame is dropped: what the encoder writes, the decoder reads back, for every command that is
the reading of some frame and every legal buffer size (30_encoding R80, R92 to R94). The reading of a PROCESS frame as a
wire row is the model's choice (log entry 6). -/
def Obligations.DecodeOfEncodeIsTheCommand : Prop :=
  ∀ (b : Nat) (i : Instr), 20 ≤ b → wellFormed b i = true → decode b (encode i) = i

/-- Decoding loses nothing of any byte string, legal or not, and always gives a well-formed command (R92, R210). -/
def Obligations.EncodeOfDecodeIsTheFrame : Prop :=
  ∀ (b : Nat) (frame : List Byte), 20 ≤ b →
    encode (decode b frame) = frame ∧ wellFormed b (decode b frame) = true

/-- Command frames written out in the spec (R94's example, R101's frame in a PROCESS command, vectors L2-CRC-17, L2-C-3,
L2-C-14) decode to the commands they stand for. -/
def Obligations.WorkedCommandWordsDecode : Prop :=
  decode 25 [0x12, 0xFF, 0xFF, 0x80, 0x20, 0x02, 0x30, 0x03] = .buildSet2 0xFFFF 0x80 0x2002 0x3003 ∧
  decode 25 [0x02, 0x11, 0x7E] = .registerCb 0x11 0x7E ∧
  decode 25 [0x10, 0x49, 0x96, 0x02, 0xD2] = .buildBeacon 0x499602D2 ∧
  decode 25 [0x08, 0x00, 0x01, 0x00, 0x00, 0x00, 0x01, 0xAA] = .crc16 1 0 1 [0xAA] ∧
  decode 25 [0x08, 0x00, 0x02, 0x00, 0x00, 0x00, 0x01, 0xAA] =
    .illegalCommand [0x08, 0x00, 0x02, 0x00, 0x00, 0x00, 0x01, 0xAA] ∧
  decode 25 [0x01, 0x00] = .illegalCommand [0x01, 0x00] ∧
  decode 25 [0x20, 0xAA, 0x10, 0x01, 0xFF, 0xFF, 0x00, 0x01, 0x00, 0x01, 0x01, 0x49, 0x96, 0x02, 0xD2, 0x64, 0xDB,
      0, 0, 0, 0, 0, 0, 0, 0, 0] =
    .wireBeacon { src := 0x1001, dst := 0xFFFF, rst := 1, msg := 1 } 0x499602D2 0x64DB [0, 0, 0, 0, 0, 0, 0, 0, 0]

/-- R210: which frames of at least one byte are illegal or malformed (the opcodes of R93, the lengths of R94), and that such a frame is
answered ST_ILLEGAL_COMMAND with no result, no state written, no storage transaction, no event. -/
def Obligations.IllegalCommandsAreAnsweredOnly : Prop :=
  (∀ (b : Nat) (op : Byte) (args : List Byte),
    (∃ g, decode b (op :: args) = .illegalCommand g) ↔
      ¬ ((op, args.length) ∈ ([(0x01, 0), (0x02, 2), (0x10, 4), (0x11, 5), (0x12, 7), (0x13, 9), (0x18, 0), (0x20, b),
            (0x28, 0), (0x30, 0), (0x31, 0), (0x32, 0), (0x33, 0), (0x34, 0), (0x35, 0)] : List (Byte × Nat)) ∨
        (op = 0x08 ∧ 6 ≤ args.length ∧ args.length = 6 + (halfAt args 0).toNat))) ∧
  (∀ (g : List Byte) (s : State), exec (.illegalCommand g) s = .next { s with
    rsp := some { status := .illegalCommand, results := [] }, evt := none, sto := [] }) ∧
  (∀ (s : State) (op : Byte) (args g : List Byte) (rest : List Input),
    s.cfg.legal = true → s.input = .command (op :: args) :: rest →
    decode s.cfg.wireBufSize (op :: args) = .illegalCommand g →
    step s = .next { s with
      input := rest, rsp := some { status := .illegalCommand, results := [] }, evt := none, sto := [] })

/-! ### The step -/

/-- A step runs the decoded command: on a configured block whose oldest input is a command frame, the step is `exec` of
the frame's decoding, the frame taken off the queue (R51, R93). -/
def Obligations.StepRunsTheDecodedCommand : Prop :=
  ∀ (s : State) (frame : List Byte) (rest : List Input),
    s.cfg.legal = true → s.input = .command frame :: rest →
    step s = exec (decode s.cfg.wireBufSize frame) { s with input := rest }

/-- R232, the only departures from "the command completes with a status", in every state that meets the invariant:
(a) a configuration without meaning is refused; (b) with a silent storage agent a command is stuck exactly when it issues a
storage transaction; (c) nothing else: every input completes, and every command frame is answered. That the agent's silence is a flag of the
state and a stuck command a fault is log entry 4; that `step` refuses, under a name of its own, is log entry 11. -/
def Obligations.StepOutcomes : Prop :=
  ∀ (s : State), s.Inv →
    ((s.cfg.ownAddr = 0x0000 ∨ s.cfg.ownAddr = 0xFFFF ∨ s.cfg.peerCapacity < 1 ∨ 255 < s.cfg.peerCapacity ∨
        0x10000 < s.cfg.storageBase + 4 * s.cfg.peerCapacity + 3 ∨ s.cfg.wireBufSize < 20) →
      step s = .refused .illegalConfiguration) ∧
    ((s.cfg.ownAddr ≠ 0x0000 ∧ s.cfg.ownAddr ≠ 0xFFFF ∧ 1 ≤ s.cfg.peerCapacity ∧ s.cfg.peerCapacity ≤ 255 ∧
        s.cfg.storageBase + 4 * s.cfg.peerCapacity + 3 ≤ 0x10000 ∧ 20 ≤ s.cfg.wireBufSize) →
      (s.agentAnswers = true → ∃ t, step s = .next t ∧
        ∀ frame rest, s.input = .command frame :: rest → t.rsp.isSome = true) ∧
      (s.agentAnswers = false → ∀ frame rest, s.input = .command frame :: rest →
        ∃ t, step { s with agentAnswers := true } = .next t ∧
          (t.sto = [] → step s = .next { t with agentAnswers := false }) ∧
          (t.sto ≠ [] → step s = .fault .storageAgentSilent)))

/-- With no command pending the block does nothing (R51 "The block never starts a step on its own"; that such a step
answers the same state is the model's choice, log entry 9). -/
def Obligations.BlockWaitsForTheHost : Prop :=
  ∀ (s : State), s.cfg.legal = true → s.input = [] → step s = .next s

/-- Every command gives exactly one response; its status is one that command produces (R96, R222), never ST_NONE nor
ST_ADDED_NEW_ADDRESS; result bytes follow only ST_SUCCESS, as many as R95 gives the command. -/
def Obligations.EveryCommandAnswersOnce : Prop :=
  ∀ (i : Instr) (s t : State), exec i s = .next t →
    ∃ r, t.rsp = some r ∧
      r.status ∈ (match i with
        | .registerCb _ _ => [Status.success, .unknownType]
        | .crc16 _ _ _ _ => [Status.success, .badRange]
        | .finalize => [Status.success, .notInitialized, .noMessage]
        | .dispatch => [Status.success, .noMessage]
        | .illegalCommand _ => [Status.illegalCommand]
        | .process _ | .wireBeacon _ _ _ _ | .wireSetIndividual _ _ _ _ _ | .wireSetTwoIndividuals _ _ _ _ _ _
        | .wireSetThreeIndividuals _ _ _ _ _ _ _ | .wireDeviceStatusReserved _ _ =>
          [Status.success, .notInitialized, .invalidBuffer, .wrongDestination, .unknownType, .checksumMismatch,
            .atMaxAddresses, .invalidResetCounter, .invalidMessageCounter]
        | _ => [Status.success]) ∧
      (r.status ≠ .success → r.results = []) ∧
      (r.status = .success → r.results.length = (match i with
        | .crc16 _ _ _ _ => 2
        | .finalize => 1 + s.txbuf.length
        | .queryRxSrc | .queryRxDst | .queryRxRst | .queryRxMsg => 2
        | .queryRxType | .queryRxValidation => 1
        | _ => 0))

/-- The frame of every command (R40, the column of the commands that write): a command that completes leaves unchanged
every state element it is not listed for, the configuration, the pending inputs, and, but for INIT, FINALIZE and PROCESS,
every byte of storage; only DISPATCH emits an event (R226). -/
def Obligations.CommandsWriteOnlyTheirElements : Prop :=
  ∀ (i : Instr) (s t : State), exec i s = .next t →
    (t.cfg = s.cfg ∧ t.ownAddr = s.ownAddr ∧ t.input = s.input ∧ t.agentAnswers = s.agentAnswers ∧ t.draws = s.draws) ∧
    (i ≠ .init → t.initDone = s.initDone) ∧
    ((∀ ty en, i ≠ .registerCb ty en) → t.cbEn = s.cbEn) ∧
    (i ≠ .init → i ≠ .finalize → t.ownMsg = s.ownMsg ∧ t.ownRst = s.ownRst) ∧
    (isBuild i = false → i ≠ .finalize → t.txbuf = s.txbuf ∧ t.txLen = s.txLen) ∧
    (i ≠ .init → isProcess i = false →
      t.peerCount = s.peerCount ∧ t.peerAddr = s.peerAddr ∧ t.peerRst = s.peerRst ∧ t.peerMsg = s.peerMsg) ∧
    (isProcess i = false →
      t.rxSrc = s.rxSrc ∧ t.rxDst = s.rxDst ∧ t.rxRst = s.rxRst ∧ t.rxMsg = s.rxMsg ∧ t.rxType = s.rxType ∧
      t.rxValidation = s.rxValidation ∧ t.rxPayload = s.rxPayload) ∧
    (isProcess i = false → i ≠ .dispatch → t.rxValid = s.rxValid) ∧
    (i ≠ .init → i ≠ .finalize → isProcess i = false →
      t.sto = [] ∧ t.storage = s.storage ∧ t.committed = s.committed) ∧
    (i ≠ .dispatch → t.evt = none)

/-- The invariant, of which R35 is a part, is kept by every step from every state that meets it. -/
def Obligations.StepKeepsTheInvariant : Prop :=
  ∀ (s t : State), s.Inv → step s = .next t → t.Inv

/-- The invariant holds after power-on, for every legal configuration and every storage content in canonical form;
so it does in `State.reset`, whose parameters are the model's choice (log entries 1 to 4). -/
def Obligations.PowerOnMeetsTheInvariant : Prop :=
  (∀ (c : Config) (content : Memory), c.legal = true → Memory.wf content → (State.powerOn c content).Inv) ∧
  State.reset.Inv

/-! ### Storage -/

/-- R63: a command that writes storage ends its transactions with exactly one commit, after its last write; a command
that writes none commits none. The content after a command is that of its transactions in order (R53, R62). -/
def Obligations.CommitClosesEveryWritingCommand : Prop :=
  ∀ (i : Instr) (s t : State), exec i s = .next t →
    t.storage = t.sto.foldl StTxn.store s.storage ∧
    ((∃ off b, StTxn.write off b ∈ t.sto) →
      ∃ before, t.sto = before ++ [.commit] ∧ StTxn.commit ∉ before ∧ t.committed = t.storage) ∧
    ((∀ off b, StTxn.write off b ∉ t.sto) →
      StTxn.commit ∉ t.sto ∧ t.storage = s.storage ∧ t.committed = s.committed)

/-- R54: a configuration whose storage range passes 0x10000 is refused; no command forms an offset outside
[S, S + 4P + 3), so none wraps and none is a fault. -/
def Obligations.StorageOffsetsStayInTheImage : Prop :=
  (∀ (s : State), 0x10000 < s.cfg.storageBase + 4 * s.cfg.peerCapacity + 3 →
    step s = .refused .illegalConfiguration) ∧
  (∀ (i : Instr) (s : State), s.peerCount.toNat ≤ s.cfg.peerCapacity →
    exec i s ≠ .fault .storageOffsetUnbacked ∧
    ∀ t, exec i s = .next t → ∀ off, (StTxn.read off ∈ t.sto ∨ ∃ b, StTxn.write off b ∈ t.sto) →
      s.cfg.storageBase ≤ off ∧ off < s.cfg.storageBase + 4 * s.cfg.peerCapacity + 3 ∧
      (s.cfg.legal = true → off < 0x10000))

/-- The bytes of storage a command stores to, and that every other byte reads as before (R57, R136, R178, R200): INIT and
FINALIZE store to the own reset counter; PROCESS to the entry and the count the comparator's row says; no other command stores. -/
def Obligations.StoredBytesAndNoOthers : Prop :=
  ∀ (s t : State),
    (exec .init s = .next t → ∀ a, a ≠ ownRstOff s.cfg → a ≠ ownRstOff s.cfg + 1 →
      Memory.get t.storage a = Memory.get s.storage a) ∧
    (exec .finalize s = .next t → ∀ a, a ≠ ownRstOff s.cfg → a ≠ ownRstOff s.cfg + 1 →
      Memory.get t.storage a = Memory.get s.storage a) ∧
    (∀ f, exec (.process f) s = .next t → ∀ a,
      (match classify (frameSrc f) (frameRst f) (frameMsg f) s with
        | .add => a ≠ peerAddrOff s.cfg s.peerCount.toNat ∧ a ≠ peerAddrOff s.cfg s.peerCount.toNat + 1 ∧
            a ≠ peerRstOff s.cfg s.peerCount.toNat ∧ a ≠ peerRstOff s.cfg s.peerCount.toNat + 1 ∧ a ≠ countOff s.cfg
        | .restart i => a ≠ peerRstOff s.cfg i ∧ a ≠ peerRstOff s.cfg i + 1
        | _ => True) →
      Memory.get t.storage a = Memory.get s.storage a) ∧
    (∀ i, i ≠ .init → i ≠ .finalize → isProcess i = false → exec i s = .next t → ∀ a,
      Memory.get t.storage a = Memory.get s.storage a)

/-- R240: a power cycle latches OWN_ADDR, gives every other element its reset value (R40), and makes the committed content
the storage content. Where a byte was written and not committed, which no completed command leaves, it is the old or the
new value (R55), by a free value. -/
def Obligations.PowerCycleRestoresResetState : Prop :=
  ∀ (s : State) (rest : List Input), s.cfg.legal = true → s.input = .powerCycle :: rest →
    Memory.wf s.storage → Memory.wf s.committed →
    ∃ t, step s = .next t ∧ t.cfg = s.cfg ∧ t.input = rest ∧
      t.ownAddr = s.cfg.ownAddr ∧ t.initDone = false ∧
      t.cbEn = { beacon := false, set1 := false, set2 := false, set3 := false } ∧
      t.ownMsg = 0 ∧ t.ownRst = 0 ∧
      t.txbuf = [0xAA, hi s.cfg.ownAddr, lo s.cfg.ownAddr] ++ List.replicate (s.cfg.wireBufSize - 3) 0x00 ∧
      t.txLen = 0 ∧ t.peerCount = 0 ∧
      t.peerAddr = List.replicate s.cfg.peerCapacity 0 ∧ t.peerRst = List.replicate s.cfg.peerCapacity 0 ∧
      t.peerMsg = List.replicate s.cfg.peerCapacity 0 ∧
      t.rxSrc = 0 ∧ t.rxDst = 0 ∧ t.rxRst = 0 ∧ t.rxMsg = 0 ∧ t.rxType = 0 ∧ t.rxValidation = .none ∧
      t.rxPayload = List.replicate 8 0x00 ∧ t.rxValid = false ∧
      t.committed = t.storage ∧
      (s.storage = s.committed → t.storage = s.committed) ∧
      (∀ a, Memory.get t.storage a = Memory.get s.committed a ∨ Memory.get t.storage a = Memory.get s.storage a)

/-- Across a power cycle and the INIT after it (R58, R180 (e), R244): peer addresses, epochs and the count come back, every
message counter is 0, and the own epoch goes up by one. -/
def Obligations.PeerTableSurvivesPowerCycle : Prop :=
  ∀ (s : State) (rest : List Input), s.Inv → s.cfg.legal = true → s.initDone = true → s.agentAnswers = true →
    s.input = .powerCycle :: .command [0x01] :: rest →
    ∃ t u, step s = .next t ∧ step t = .next u ∧ u.succeeded = true ∧ u.initDone = true ∧
      u.peerCount = s.peerCount ∧ u.peerAddr = s.peerAddr ∧ u.peerRst = s.peerRst ∧
      u.peerMsg = List.replicate s.cfg.peerCapacity 0 ∧
      u.ownRst = s.ownRst + 1 ∧ u.ownMsg = 0

/-- R241, the block after reset and before INIT. -/
def Obligations.BehaviourBeforeInit : Prop :=
  (∀ (s : State), s.initDone = false → s.rxValid = false →
    exec .finalize s = .next { s with
      rsp := some { status := .notInitialized, results := [] }, evt := none, sto := [] } ∧
    (∀ frame, exec (.process frame) s = .next { s with
      rsp := some { status := .notInitialized, results := [] }, evt := none, sto := [] }) ∧
    exec .dispatch s = .next { s with
      rsp := some { status := .noMessage, results := [] }, evt := none, sto := [] } ∧
    (∀ i : Instr, isBuild i = true ∨ (∃ l a n d, i = .crc16 l a n d) ∨ (∃ ty en, i = .registerCb ty en) ∨
        i ∈ [Instr.queryRxSrc, .queryRxDst, .queryRxType, .queryRxRst, .queryRxMsg, .queryRxValidation] →
      ∃ t, exec i s = .next t ∧ exec i { s with initDone := true } = .next { t with initDone := true })) ∧
  (∀ (i : Instr) (s t u v : State), s.Inv → s.cfg.legal = true → s.agentAnswers = true → s.initDone = false →
    isBuild i = true → exec i s = .next t → exec .init t = .next u → exec .finalize u = .next v →
    v.succeeded = true ∧ u.txbuf = t.txbuf ∧ u.txLen = t.txLen)

/-! ### CRC-16 -/

/-- R121: the byte-wise form of R120 gives the value of the per-bit form, for every range inside the data. -/
def Obligations.CrcMatchesBitSerialForm : Prop :=
  ∀ (data : List Byte) (start length : Nat), start + length ≤ data.length →
    crc16 data start length = crcSerial ((data.drop start).take length)

/-- R124: (a) determinism, (b) linearity, (c) zero prefix, (d) detection of any single-bit error. -/
def Obligations.CrcLaws : Prop :=
  (∀ (x y : List Byte) (i j n : Nat), i + n ≤ x.length → j + n ≤ y.length →
    (∀ k, k < n → byteAt x (i + k) = byteAt y (j + k)) → crc16 x i n = crc16 y j n) ∧
  (∀ (x y : List Byte), x.length = y.length →
    crc16 (List.zipWith (fun p q => p ^^^ q) x y) 0 x.length = crc16 x 0 x.length ^^^ crc16 y 0 y.length) ∧
  (∀ (n : Nat) (x : List Byte), crc16 (List.replicate n 0x00 ++ x) 0 (n + x.length) = crc16 x 0 x.length) ∧
  (∀ (x : List Byte) (i j : Nat), i < x.length → j < 8 →
    crc16 (x.set i (byteAt x i ^^^ (1#8 <<< j))) 0 x.length ≠ crc16 x 0 x.length)

/-- R122, the CRC16 command: encoding, the answer without 16-bit wrap of the range, no state written, the malformed
lengths, the corner cases and the worked value. -/
def Obligations.Crc16CommandAnswers : Prop :=
  (∀ (l start length : Half) (data : List Byte),
    encode (.crc16 l start length data) =
      [0x08, hi l, lo l, hi start, lo start, hi length, lo length] ++ data) ∧
  (∀ (l start length : Half) (data : List Byte) (b : Nat), data.length ≠ l.toNat →
    ∃ g, decode b ([0x08, hi l, lo l, hi start, lo start, hi length, lo length] ++ data) = .illegalCommand g) ∧
  (∀ (args : List Byte) (b : Nat), args.length < 6 → ∃ g, decode b (0x08 :: args) = .illegalCommand g) ∧
  (∀ (l start length : Half) (data : List Byte) (s : State),
    exec (.crc16 l start length data) s = .next { s with
      rsp := some (if start.toNat + length.toNat > l.toNat then { status := .badRange, results := [] }
        else { status := .success, results := halfBytes (crc16 data start.toNat length.toNat) })
      evt := none, sto := [] }) ∧
  (∀ (data : List Byte) (start : Nat), crc16 data start 0 = 0x0000) ∧
  (∀ (n start length : Nat), crc16 (List.replicate n 0x00) start length = 0x0000) ∧
  crc16 [0xAA, 0x10, 0x01, 0xFF, 0xFF, 0x00, 0x01, 0x00, 0x01, 0x01, 0x49, 0x96, 0x02, 0xD2] 0 14 = 0x64DB

/-! ### The framer -/

/-- R131: BUILD_BEACON. -/
def Obligations.BuildBeaconWritesTheFrame : Prop :=
  ∀ (uptime : Word) (s : State), s.txbuf.length = s.cfg.wireBufSize → 20 ≤ s.cfg.wireBufSize →
    encode (.buildBeacon uptime) = [0x10, uptime.extractLsb' 24 8, uptime.extractLsb' 16 8,
      uptime.extractLsb' 8 8, uptime.extractLsb' 0 8] ∧
    exec (.buildBeacon uptime) s = .next { s with
      txbuf := s.txbuf.take 3 ++ [0xFF, 0xFF, 0x00, 0x00, 0x00, 0x00, 0x01, uptime.extractLsb' 24 8,
        uptime.extractLsb' 16 8, uptime.extractLsb' 8 8, uptime.extractLsb' 0 8] ++
        List.replicate (s.cfg.wireBufSize - 14) 0x00
      txLen := 16
      rsp := some { status := .success, results := [] }, evt := none, sto := [] }

/-- R132, R133, R134: BUILD_SET1, BUILD_SET2, BUILD_SET3, for every destination, level and address. -/
def Obligations.BuildSetsWriteTheFrames : Prop :=
  ∀ (dest : Half) (level : Byte) (a1 a2 a3 : Half) (s : State),
    s.txbuf.length = s.cfg.wireBufSize → 20 ≤ s.cfg.wireBufSize →
    encode (.buildSet1 dest level a1) = [0x11, hi dest, lo dest, level, hi a1, lo a1] ∧
    encode (.buildSet2 dest level a1 a2) = [0x12, hi dest, lo dest, level, hi a1, lo a1, hi a2, lo a2] ∧
    encode (.buildSet3 dest level a1 a2 a3) =
      [0x13, hi dest, lo dest, level, hi a1, lo a1, hi a2, lo a2, hi a3, lo a3] ∧
    exec (.buildSet1 dest level a1) s = .next { s with
      txbuf := s.txbuf.take 3 ++ [hi dest, lo dest, 0x00, 0x00, 0x00, 0x00, 0x10, level, hi a1, lo a1] ++
        List.replicate (s.cfg.wireBufSize - 13) 0x00
      txLen := 15
      rsp := some { status := .success, results := [] }, evt := none, sto := [] } ∧
    exec (.buildSet2 dest level a1 a2) s = .next { s with
      txbuf := s.txbuf.take 3 ++ [hi dest, lo dest, 0x00, 0x00, 0x00, 0x00, 0x11, level, hi a1, lo a1, hi a2, lo a2] ++
        List.replicate (s.cfg.wireBufSize - 15) 0x00
      txLen := 17
      rsp := some { status := .success, results := [] }, evt := none, sto := [] } ∧
    exec (.buildSet3 dest level a1 a2 a3) s = .next { s with
      txbuf := s.txbuf.take 3 ++ [hi dest, lo dest, 0x00, 0x00, 0x00, 0x00, 0x12, level, hi a1, lo a1, hi a2, lo a2,
        hi a3, lo a3] ++ List.replicate (s.cfg.wireBufSize - 17) 0x00
      txLen := 19
      rsp := some { status := .success, results := [] }, evt := none, sto := [] }

/-- A build on top of a built but unfinalized message replaces it completely (R130): the first of two builds leaves no trace. -/
def Obligations.BuildReplacesBuild : Prop :=
  ∀ (i j : Instr) (s : State), isBuild i = true → isBuild j = true →
    s.txbuf.length = s.cfg.wireBufSize → 20 ≤ s.cfg.wireBufSize →
    ∃ t, exec i s = .next t ∧ exec j t = exec j s ∧ t.ownMsg = s.ownMsg

/-- R135, R137, R138: FINALIZE. Its two errors change nothing; otherwise it advances the counters (R136), puts out the
built buffer with the counters and then the checksum over them stamped, and wipes TXBUF and TX_LEN. -/
def Obligations.FinalizeEmitsTheStampedFrame : Prop :=
  encode .finalize = [0x18] ∧
  (∀ (s : State), s.initDone = false → exec .finalize s = .next { s with
    rsp := some { status := .notInitialized, results := [] }, evt := none, sto := [] }) ∧
  (∀ (s : State), s.initDone = true → s.txLen = 0 → exec .finalize s = .next { s with
    rsp := some { status := .noMessage, results := [] }, evt := none, sto := [] }) ∧
  (∀ (s : State) (rst msg : Half) (txns : List StTxn), s.Inv → 20 ≤ s.cfg.wireBufSize →
    s.initDone = true → s.txLen ≠ 0 → (s.ownMsg = 0xFFFF → s.agentAnswers = true) →
    rst = (if s.ownMsg = 0xFFFF then s.ownRst + 1 else s.ownRst) →
    msg = (if s.ownMsg = 0xFFFF then 1 else s.ownMsg + 1) →
    txns = (if s.ownMsg = 0xFFFF then
      [.write (s.cfg.storageBase + 4 * s.cfg.peerCapacity + 1) (hi rst),
       .write (s.cfg.storageBase + 4 * s.cfg.peerCapacity + 2) (lo rst), .commit] else []) →
    ∃ out, out.length = s.cfg.wireBufSize ∧
      (∀ k, k < s.cfg.wireBufSize → byteAt out k =
        if k = 5 then hi rst else if k = 6 then lo rst else if k = 7 then hi msg else if k = 8 then lo msg
        else if k = s.txLen.toNat - 2 then hi (crc16 out 0 (s.txLen.toNat - 2))
        else if k = s.txLen.toNat - 1 then lo (crc16 out 0 (s.txLen.toNat - 2))
        else if s.txLen.toNat ≤ k then 0x00
        else byteAt s.txbuf k) ∧
      exec .finalize s = .next { s with
        ownRst := rst, ownMsg := msg
        txbuf := [0xAA, hi s.ownAddr, lo s.ownAddr] ++ List.replicate (s.cfg.wireBufSize - 3) 0x00, txLen := 0
        storage := txns.foldl StTxn.store s.storage, committed := txns.foldl StTxn.store s.storage
        rsp := some { status := .success, results := s.txLen :: out }, evt := none, sto := txns })

/-- R136: one advance of the counters, and the sequence that follows: the n-th FINALIZE after INIT stamps message counter
1, 2, …, 65535, 1, 2, …, and the reset counter goes up by one at each wrap. -/
def Obligations.FinalizeCountersRunAndWrap : Prop :=
  (∀ (s t : State), advanceOwnCounters s = .next t →
    (s.ownMsg ≠ 0xFFFF → t = { s with ownMsg := s.ownMsg + 1 }) ∧
    (s.ownMsg = 0xFFFF → ∀ txns, txns = [.write (s.cfg.storageBase + 4 * s.cfg.peerCapacity + 1) (hi (s.ownRst + 1)),
        .write (s.cfg.storageBase + 4 * s.cfg.peerCapacity + 2) (lo (s.ownRst + 1)), StTxn.commit] →
      t = { s with
        ownMsg := 1, ownRst := s.ownRst + 1, sto := s.sto ++ txns
        storage := txns.foldl StTxn.store s.storage, committed := txns.foldl StTxn.store s.storage }) ∧
    t.ownMsg ≠ 0) ∧
  (∀ (builds : List Instr) (s : State), (∀ i ∈ builds, isBuild i = true) →
    s.Inv → s.cfg.legal = true → s.initDone = true → s.agentAnswers = true → s.ownMsg = 0 →
    ∃ t, runAll (builds.flatMap fun i => [i, .finalize]) s = .next t ∧
      t.ownMsg = (if builds = [] then 0 else BitVec.ofNat 16 ((builds.length - 1) % 65535 + 1)) ∧
      t.ownRst = s.ownRst + BitVec.ofNat 16 ((builds.length - 1) / 65535))

/-- The (reset, message) pair never goes back and each frame put out carries, in its bytes 5 to 8, a strictly higher one,
unless OWN_RST wraps from 0xFFFF to 0 (R139 (b)). -/
def Obligations.EmittedPairsIncrease : Prop :=
  ∀ (i : Instr) (s t : State), s.Inv → s.initDone = true → exec i s = .next t →
    (¬ (i = .finalize ∧ s.ownRst = 0xFFFF ∧ s.ownMsg = 0xFFFF) → pairLe s.ownRst s.ownMsg t.ownRst t.ownMsg) ∧
    (i = .finalize → t.succeeded = true → ∃ len out, t.rsp = some { status := .success, results := len :: out } ∧
      halfAt out 5 = t.ownRst ∧ halfAt out 7 = t.ownMsg ∧
      (¬ (s.ownRst = 0xFFFF ∧ s.ownMsg = 0xFFFF) → pairLt s.ownRst s.ownMsg (halfAt out 5) (halfAt out 7)))

/-- R139 (d), two instances: what one block builds and finalizes, another parses back to the same source, destination,
counters, type and payload, when its destination and freshness checks accept. -/
def Obligations.BuiltMessageIsReceivedAsBuilt : Prop :=
  ∀ (i : Instr) (ty : MsgType) (dest : Half) (payload : List Byte) (s s1 s2 r : State) (len : Byte) (out : List Byte),
    buildParts i = some (ty, dest, payload) →
    s.Inv → s.cfg.legal = true → exec i s = .next s1 → exec .finalize s1 = .next s2 →
    s2.rsp = some { status := .success, results := len :: out } →
    r.Inv → r.cfg.legal = true → r.cfg.wireBufSize = s.cfg.wireBufSize →
    r.initDone = true → r.agentAnswers = true → (dest = r.ownAddr ∨ dest = 0xFFFF) →
    (classify s.ownAddr s2.ownRst s2.ownMsg r).status.accepting = true →
    ∃ r', exec (.process out) r = .next r' ∧ r'.succeeded = true ∧ r'.rxValid = true ∧
      r'.rxSrc = s.ownAddr ∧ r'.rxDst = dest ∧ r'.rxRst = s2.ownRst ∧ r'.rxMsg = s2.ownMsg ∧
      r'.rxType = ty.code ∧ r'.rxPayload.take ty.payloadLen = payload

/-! ### The parser -/

/-- R151: before INIT, PROCESS writes nothing; otherwise it clears first, so a failed PROCESS leaves RX_VALID = 0, an
undispatched message is dropped, and no payload byte or freshness outcome of an earlier frame stays. -/
def Obligations.ProcessGateAndClears : Prop :=
  (∀ (frame : List Byte) (s : State), s.initDone = false → exec (.process frame) s = .next { s with
    rsp := some { status := .notInitialized, results := [] }, evt := none, sto := [] }) ∧
  (∀ (frame : List Byte) (s t : State), s.initDone = true → exec (.process frame) s = .next t →
    t.rxValid = t.succeeded ∧
    t.rxPayload.length = 8 ∧
    (∀ k, (match MsgType.ofByte (frameType frame) with
      | some ty => ty.payloadLen
      | none => 0) ≤ k → byteAt t.rxPayload k = 0x00) ∧
    (byteAt frame 0 ≠ 0xAA ∨ (frameDst frame ≠ s.ownAddr ∧ frameDst frame ≠ 0xFFFF) →
      t.rxValidation = .none ∧ t.rxPayload = List.replicate 8 0x00))

/-- R152: a bad magic byte zeroes every last-received field, so every query then answers 0; otherwise the five header
fields are the frame's, whatever later step rejects it. -/
def Obligations.MagicCheckAndExtraction : Prop :=
  (∀ (frame : List Byte) (s : State), s.initDone = true → byteAt frame 0 ≠ 0xAA →
    exec (.process frame) s = .next { s with
      rxSrc := 0, rxDst := 0, rxRst := 0, rxMsg := 0, rxType := 0, rxValidation := .none
      rxPayload := List.replicate 8 0x00, rxValid := false
      rsp := some { status := .invalidBuffer, results := [] }, evt := none, sto := [] } ∧
    ∀ t, exec (.process frame) s = .next t →
      ∀ q ∈ [Instr.queryRxSrc, .queryRxDst, .queryRxType, .queryRxRst, .queryRxMsg, .queryRxValidation],
        ∃ u r, exec q t = .next u ∧ u.rsp = some r ∧ r.status = .success ∧ ∀ b ∈ r.results, b = 0x00) ∧
  (∀ (frame : List Byte) (s t : State), s.initDone = true → byteAt frame 0 = 0xAA →
    exec (.process frame) s = .next t →
    t.rxSrc = be16 (byteAt frame 1) (byteAt frame 2) ∧ t.rxDst = be16 (byteAt frame 3) (byteAt frame 4) ∧
    t.rxRst = be16 (byteAt frame 5) (byteAt frame 6) ∧ t.rxMsg = be16 (byteAt frame 7) (byteAt frame 8) ∧
    t.rxType = byteAt frame 9)

/-- R153: a frame for another destination is rejected before the freshness check: no peer added, no mark advanced,
RX_VALIDATION NONE. A frame addressed to 0x0000 always is. -/
def Obligations.DestinationCheckComesFirst : Prop :=
  (∀ (frame : List Byte) (s : State), s.initDone = true → byteAt frame 0 = 0xAA →
    frameDst frame ≠ s.ownAddr → frameDst frame ≠ 0xFFFF →
    exec (.process frame) s = .next { s with
      rxSrc := frameSrc frame, rxDst := frameDst frame, rxRst := frameRst frame, rxMsg := frameMsg frame
      rxType := frameType frame, rxValidation := .none, rxPayload := List.replicate 8 0x00, rxValid := false
      rsp := some { status := .wrongDestination, results := [] }, evt := none, sto := [] }) ∧
  (∀ (frame : List Byte) (s t : State), s.initDone = true → byteAt frame 0 = 0xAA → s.ownAddr ≠ 0x0000 →
    frameDst frame = 0x0000 → exec (.process frame) s = .next t →
    t.rsp = some { status := .wrongDestination, results := [] })

/-- R154 to R156: PROCESS of a frame with the right magic and an acceptable destination. The
freshness check runs first and its table and storage updates (state `u`) stay, whatever follows; then the type, the
payload, the checksum and the verdict give the status in that order. -/
def Obligations.FreshnessThenTypeThenChecksum : Prop :=
  ∀ (frame : List Byte) (s : State), s.initDone = true → s.agentAnswers = true →
    s.peerCount.toNat ≤ s.cfg.peerCapacity → 20 ≤ frame.length → byteAt frame 0 = 0xAA →
    (frameDst frame = s.ownAddr ∨ frameDst frame = 0xFFFF) →
    ∃ u, checkAndUpdate (frameSrc frame) (frameRst frame) (frameMsg frame)
        { s with rsp := none, evt := none, sto := [] } = .next u ∧
      ∀ v, v = (classify (frameSrc frame) (frameRst frame) (frameMsg frame) s).status →
        exec (.process frame) s = .next { u with
          rxSrc := frameSrc frame, rxDst := frameDst frame, rxRst := frameRst frame, rxMsg := frameMsg frame
          rxType := frameType frame, rxValidation := v
          rxPayload := match MsgType.ofByte (frameType frame) with
            | none => List.replicate 8 0x00
            | some ty => (frame.drop 10).take ty.payloadLen ++ List.replicate (8 - ty.payloadLen) 0x00
          rxValid := match MsgType.ofByte (frameType frame) with
            | none => false
            | some ty => decide (crc16 frame 0 (10 + ty.payloadLen) = frameChk frame ty.payloadLen) && v.accepting
          rsp := some { results := [], status := match MsgType.ofByte (frameType frame) with
            | none => .unknownType
            | some ty =>
              if crc16 frame 0 (10 + ty.payloadLen) ≠ frameChk frame ty.payloadLen then .checksumMismatch
              else if v.accepting then .success else v } }

/-- R157 and R158: the status of a PROCESS, as the first of the conditions in R157's order, and what each outcome leaves
in the header registers, RX_VALIDATION, RX_PAYLOAD, RX_VALID, the peer table and the storage. -/
def Obligations.ProcessOutcomeTable : Prop :=
  ∀ (frame : List Byte) (s : State) (v st : Status), s.agentAnswers = true →
    s.peerCount.toNat ≤ s.cfg.peerCapacity → 20 ≤ frame.length →
    v = (classify (frameSrc frame) (frameRst frame) (frameMsg frame) s).status →
    st = (if s.initDone = false then .notInitialized
      else if byteAt frame 0 ≠ 0xAA then .invalidBuffer
      else if frameDst frame ≠ s.ownAddr ∧ frameDst frame ≠ 0xFFFF then .wrongDestination
      else match MsgType.ofByte (frameType frame) with
        | none => .unknownType
        | some ty =>
          if crc16 frame 0 (10 + ty.payloadLen) ≠ frameChk frame ty.payloadLen then .checksumMismatch
          else if v = .success ∨ v = .addedNewAddress then .success else v) →
    ∃ t, exec (.process frame) s = .next t ∧ t.rsp = some { status := st, results := [] } ∧
      (st = .notInitialized → t = { s with
        rsp := some { status := .notInitialized, results := [] }, evt := none, sto := [] }) ∧
      (st = .invalidBuffer → t.rxSrc = 0 ∧ t.rxDst = 0 ∧ t.rxRst = 0 ∧ t.rxMsg = 0 ∧ t.rxType = 0) ∧
      (st ≠ .notInitialized → st ≠ .invalidBuffer →
        t.rxSrc = frameSrc frame ∧ t.rxDst = frameDst frame ∧ t.rxRst = frameRst frame ∧ t.rxMsg = frameMsg frame ∧
        t.rxType = frameType frame) ∧
      (st = .invalidBuffer ∨ st = .wrongDestination → t.rxValidation = .none) ∧
      (st ∉ [Status.notInitialized, .invalidBuffer, .wrongDestination] → t.rxValidation = v) ∧
      (st = .invalidBuffer ∨ st = .wrongDestination ∨ st = .unknownType → t.rxPayload = List.replicate 8 0x00) ∧
      (st ∉ [Status.notInitialized, .invalidBuffer, .wrongDestination, .unknownType] →
        ∃ ty, MsgType.ofByte (frameType frame) = some ty ∧
          t.rxPayload = (frame.drop 10).take ty.payloadLen ++ List.replicate (8 - ty.payloadLen) 0x00) ∧
      (st ≠ .notInitialized → t.rxValid = decide (st = .success)) ∧
      (st ∉ [Status.unknownType, .checksumMismatch, .success] →
        t.peerCount = s.peerCount ∧ t.peerAddr = s.peerAddr ∧ t.peerRst = s.peerRst ∧ t.peerMsg = s.peerMsg ∧
        t.sto = [] ∧ t.storage = s.storage ∧ t.committed = s.committed) ∧
      (st ∈ [Status.unknownType, .checksumMismatch, .success] →
        ∃ u, checkAndUpdate (frameSrc frame) (frameRst frame) (frameMsg frame)
            { s with rsp := none, evt := none, sto := [] } = .next u ∧
          t.peerCount = u.peerCount ∧ t.peerAddr = u.peerAddr ∧ t.peerRst = u.peerRst ∧ t.peerMsg = u.peerMsg ∧
          t.sto = u.sto ∧ t.storage = u.storage ∧ t.committed = u.committed)

/-- R89: FINALIZE puts out padding bytes 0; PROCESS reads no byte past the frame, and past byte 9 none when the type is
unknown: two buffers that differ only there are processed alike. -/
def Obligations.PaddingIsIgnored : Prop :=
  (∀ (s t : State) (len : Byte) (out : List Byte), s.Inv → 20 ≤ s.cfg.wireBufSize → exec .finalize s = .next t →
    t.rsp = some { status := .success, results := len :: out } →
    ∀ k, len.toNat ≤ k → byteAt out k = 0x00) ∧
  (∀ (f g : List Byte) (s : State), 20 ≤ f.length → g.length = f.length →
    (match MsgType.ofByte (byteAt f 9) with
      | some ty => ∀ k, k < 10 + ty.payloadLen + 2 → byteAt f k = byteAt g k
      | none => ∀ k, k < 10 → byteAt f k = byteAt g k) →
    exec (.process f) s = exec (.process g) s)

/-- The wire rows mean what PROCESS means: reading a PROCESS frame as the row of its type (log entry 6, the model's
choice) changes no behaviour. -/
def Obligations.WireRowsRunAsProcess : Prop :=
  ∀ (b : Nat) (frame : List Byte) (s : State), 20 ≤ b → frame.length = b →
    exec (decode b (0x20 :: frame)) s = exec (.process frame) s

/-- WIRE_BEACON (R80, R84): a Beacon frame, with the checksum of its first 14 bytes, for this node or broadcast, from a
source whose pair is fresh, is accepted, and its uptime staged. -/
def Obligations.WireBeaconIsAccepted : Prop :=
  ∀ (h : WireHeader) (uptime : Word) (chk : Half) (pad : List Byte) (s : State),
    s.initDone = true → s.agentAnswers = true → s.peerCount.toNat ≤ s.cfg.peerCapacity →
    (h.dst = s.ownAddr ∨ h.dst = 0xFFFF) → (classify h.src h.rst h.msg s).status.accepting = true →
    chk = crc16 ([0xAA, hi h.src, lo h.src, hi h.dst, lo h.dst, hi h.rst, lo h.rst, hi h.msg, lo h.msg, 0x01] ++
      wordBytes uptime) 0 14 →
    ∃ t, exec (.wireBeacon h uptime chk pad) s = .next t ∧
      t.rsp = some { status := .success, results := [] } ∧ t.rxValid = true ∧ t.evt = none ∧
      t.rxSrc = h.src ∧ t.rxDst = h.dst ∧ t.rxRst = h.rst ∧ t.rxMsg = h.msg ∧ t.rxType = 0x01 ∧
      t.rxPayload = wordBytes uptime ++ [0x00, 0x00, 0x00, 0x00] ∧
      wordAt t.rxPayload 0 = uptime

/-- WIRE_SET_INDIVIDUAL, WIRE_SET_TWO_INDIVIDUALS, WIRE_SET_THREE_INDIVIDUALS (R80, R85 to R87), likewise. -/
def Obligations.WireSetsAreAccepted : Prop :=
  ∀ (h : WireHeader) (level : Byte) (a1 a2 a3 chk : Half) (pad hdr : List Byte) (s : State),
    s.initDone = true → s.agentAnswers = true → s.peerCount.toNat ≤ s.cfg.peerCapacity →
    (h.dst = s.ownAddr ∨ h.dst = 0xFFFF) → (classify h.src h.rst h.msg s).status.accepting = true →
    hdr = [0xAA, hi h.src, lo h.src, hi h.dst, lo h.dst, hi h.rst, lo h.rst, hi h.msg, lo h.msg] →
    (chk = crc16 (hdr ++ [0x10, level, hi a1, lo a1]) 0 13 →
      ∃ t, exec (.wireSetIndividual h level a1 chk pad) s = .next t ∧
        t.rsp = some { status := .success, results := [] } ∧ t.rxValid = true ∧ t.evt = none ∧
        t.rxSrc = h.src ∧ t.rxDst = h.dst ∧ t.rxRst = h.rst ∧ t.rxMsg = h.msg ∧ t.rxType = 0x10 ∧
        t.rxPayload = [level, hi a1, lo a1, 0x00, 0x00, 0x00, 0x00, 0x00]) ∧
    (chk = crc16 (hdr ++ [0x11, level, hi a1, lo a1, hi a2, lo a2]) 0 15 →
      ∃ t, exec (.wireSetTwoIndividuals h level a1 a2 chk pad) s = .next t ∧
        t.rsp = some { status := .success, results := [] } ∧ t.rxValid = true ∧ t.evt = none ∧
        t.rxSrc = h.src ∧ t.rxDst = h.dst ∧ t.rxRst = h.rst ∧ t.rxMsg = h.msg ∧ t.rxType = 0x11 ∧
        t.rxPayload = [level, hi a1, lo a1, hi a2, lo a2, 0x00, 0x00, 0x00]) ∧
    (chk = crc16 (hdr ++ [0x12, level, hi a1, lo a1, hi a2, lo a2, hi a3, lo a3]) 0 17 →
      ∃ t, exec (.wireSetThreeIndividuals h level a1 a2 a3 chk pad) s = .next t ∧
        t.rsp = some { status := .success, results := [] } ∧ t.rxValid = true ∧ t.evt = none ∧
        t.rxSrc = h.src ∧ t.rxDst = h.dst ∧ t.rxRst = h.rst ∧ t.rxMsg = h.msg ∧ t.rxType = 0x12 ∧
        t.rxPayload = [level, hi a1, lo a1, hi a2, lo a2, hi a3, lo a3, 0x00])

/-- WIRE_DEVICE_STATUS_RESERVED (R88): the reserved type is parsed exactly like an unrecognised one, is not registrable
and is never built. -/
def Obligations.DeviceStatusIsAnUnknownType : Prop :=
  (∀ (h : WireHeader) (rest : List Byte) (s : State),
    s.initDone = true → s.agentAnswers = true → s.peerCount.toNat ≤ s.cfg.peerCapacity →
    (h.dst = s.ownAddr ∨ h.dst = 0xFFFF) →
    ∃ t, exec (.wireDeviceStatusReserved h rest) s = .next t ∧
      t.rsp = some { status := .unknownType, results := [] } ∧ t.rxValid = false ∧ t.evt = none ∧
      t.rxSrc = h.src ∧ t.rxDst = h.dst ∧ t.rxRst = h.rst ∧ t.rxMsg = h.msg ∧ t.rxType = 0x02 ∧
      t.rxPayload = List.replicate 8 0x00 ∧ t.rxValidation = (classify h.src h.rst h.msg s).status) ∧
  (∀ (en : Byte) (s : State), exec (.registerCb 0x02 en) s = .next { s with
    rsp := some { status := .unknownType, results := [] }, evt := none, sto := [] }) ∧
  (∀ (i : Instr) (s t : State), isBuild i = true → s.txbuf.length = s.cfg.wireBufSize → 20 ≤ s.cfg.wireBufSize →
    exec i s = .next t → byteAt t.txbuf 9 ∈ ([0x01, 0x10, 0x11, 0x12] : List Byte))

/-! ### The anti-replay state machine -/

/-- R178, R179: the comparator's truth table, with the writes and the storage transactions of each row. The found index is
the first whose address matches (R171). -/
def Obligations.ComparatorTruthTable : Prop :=
  ∀ (a r m : Half) (s : State), s.agentAnswers = true → s.peerCount.toNat ≤ s.cfg.peerCapacity →
    s.peerAddr.length = s.cfg.peerCapacity →
    ((∀ j, j < s.peerCount.toNat → s.peerAddr.getD j 0 ≠ a) →
      (s.peerCount.toNat < s.cfg.peerCapacity →
        (classify a r m s).status = .addedNewAddress ∧
        ∀ j txns, j = s.peerCount.toNat →
          txns = [.write (s.cfg.storageBase + 2 * j) (hi a), .write (s.cfg.storageBase + 2 * j + 1) (lo a),
            .write (s.cfg.storageBase + 2 * s.cfg.peerCapacity + 2 * j) (hi r),
            .write (s.cfg.storageBase + 2 * s.cfg.peerCapacity + 2 * j + 1) (lo r),
            .write (s.cfg.storageBase + 4 * s.cfg.peerCapacity) (s.peerCount + 1), StTxn.commit] →
          checkAndUpdate a r m s = .next { s with
            peerAddr := s.peerAddr.set j a, peerRst := s.peerRst.set j r, peerMsg := s.peerMsg.set j m
            peerCount := s.peerCount + 1, sto := s.sto ++ txns
            storage := txns.foldl StTxn.store s.storage, committed := txns.foldl StTxn.store s.storage }) ∧
      (s.peerCount.toNat = s.cfg.peerCapacity →
        (classify a r m s).status = .atMaxAddresses ∧ checkAndUpdate a r m s = .next s)) ∧
    (∀ i, i < s.peerCount.toNat → s.peerAddr.getD i 0 = a → (∀ j, j < i → s.peerAddr.getD j 0 ≠ a) →
      (s.peerRst.getD i 0 < r →
        (classify a r m s).status = .success ∧
        ∀ txns, txns = [.write (s.cfg.storageBase + 2 * s.cfg.peerCapacity + 2 * i) (hi r),
            .write (s.cfg.storageBase + 2 * s.cfg.peerCapacity + 2 * i + 1) (lo r), StTxn.commit] →
          checkAndUpdate a r m s = .next { s with
            peerRst := s.peerRst.set i r, peerMsg := s.peerMsg.set i m, sto := s.sto ++ txns
            storage := txns.foldl StTxn.store s.storage, committed := txns.foldl StTxn.store s.storage }) ∧
      (r < s.peerRst.getD i 0 →
        (classify a r m s).status = .invalidResetCounter ∧ checkAndUpdate a r m s = .next s) ∧
      (r = s.peerRst.getD i 0 → s.peerMsg.getD i 0 < m →
        (classify a r m s).status = .success ∧
        checkAndUpdate a r m s = .next { s with peerMsg := s.peerMsg.set i m }) ∧
      (r = s.peerRst.getD i 0 → m ≤ s.peerMsg.getD i 0 →
        (classify a r m s).status = .invalidMessageCounter ∧ checkAndUpdate a r m s = .next s))

/-- The table only moves forward (R31, R180 (a), (b)): once INIT is done the count never decreases, an entry keeps its
address, and its pair only grows, only when PROCESS accepts that address, to exactly the pair accepted. -/
def Obligations.PeerTableOnlyMovesForward : Prop :=
  ∀ (i : Instr) (s t : State), s.Inv → s.cfg.legal = true → s.initDone = true → exec i s = .next t →
    s.peerCount.toNat ≤ t.peerCount.toNat ∧
    ∀ k, k < s.peerCount.toNat →
      t.peerAddr.getD k 0 = s.peerAddr.getD k 0 ∧
      pairLe (s.peerRst.getD k 0) (s.peerMsg.getD k 0) (t.peerRst.getD k 0) (t.peerMsg.getD k 0) ∧
      (¬ (t.peerRst.getD k 0 = s.peerRst.getD k 0 ∧ t.peerMsg.getD k 0 = s.peerMsg.getD k 0) →
        isProcess i = true ∧ t.rxValidation.accepting = true ∧ t.rxSrc = s.peerAddr.getD k 0 ∧
        t.peerRst.getD k 0 = t.rxRst ∧ t.peerMsg.getD k 0 = t.rxMsg)

/-- R180 (c), R159 (c): after the freshness check accepts a frame, no frame of the same source with the same or a lower
pair is accepted again, whatever commands the host issues in between. -/
def Obligations.AcceptedPairIsNeverAcceptedAgain : Prop :=
  ∀ (f g : List Byte) (between : List Instr) (s t u v : State), s.Inv → s.cfg.legal = true →
    exec (.process f) s = .next t → t.rxValidation.accepting = true →
    runAll between t = .next u → exec (.process g) u = .next v →
    frameSrc g = frameSrc f → pairLe (frameRst g) (frameMsg g) (frameRst f) (frameMsg f) →
    v.rxValidation.accepting = false ∧ v.succeeded = false ∧ v.rxValid = false

/-- The block never makes two entries with one address (R176): a table without duplicates stays so. -/
def Obligations.NoDuplicateAddresses : Prop :=
  ∀ (i : Instr) (s t : State), s.Inv → s.cfg.legal = true → s.initDone = true →
    (s.peerAddr.take s.peerCount.toNat).Nodup → exec i s = .next t →
    (t.peerAddr.take t.peerCount.toNat).Nodup

/-- Once the table is full, a source not in it is rejected for good within the power cycle (R173, R250): through any run of
commands its frames are never accepted, and those that pass the other checks are answered ST_AT_MAX_ADDRESSES. -/
def Obligations.FullTableRejectsUnknownSources : Prop :=
  ∀ (run : List Instr) (f : List Byte) (s t u : State), s.Inv → s.cfg.legal = true → s.initDone = true →
    s.peerCount.toNat = s.cfg.peerCapacity → frameSrc f ∉ s.peerAddr →
    runAll run s = .next t → exec (.process f) t = .next u →
    u.succeeded = false ∧ u.rxValid = false ∧ u.peerAddr = s.peerAddr ∧
    (byteAt f 0 = 0xAA → (frameDst f = s.ownAddr ∨ frameDst f = 0xFFFF) →
      u.rxValidation = .atMaxAddresses ∧
      ∀ ty, MsgType.ofByte (frameType f) = some ty →
        crc16 f 0 (10 + ty.payloadLen) = frameChk f ty.payloadLen →
        u.rsp = some { status := .atMaxAddresses, results := [] })

/-- The replay window after a receiver restart (R248): after a power cycle and INIT, a frame of a known peer's stored epoch
with a message counter of at least 1 passes the freshness check again. -/
def Obligations.ReplayWindowAfterRestart : Prop :=
  ∀ (s t u : State) (rest : List Input) (i : Nat) (m : Half), s.Inv → s.cfg.legal = true → s.initDone = true →
    s.input = .powerCycle :: .command [0x01] :: rest → step s = .next t → step t = .next u →
    lookup s (s.peerAddr.getD i 0) = some i → 0 < m →
    classify (s.peerAddr.getD i 0) (s.peerRst.getD i 0) m u = .advance i

/-! ### Dispatch -/

/-- R190, R193, R194: DISPATCH with nothing pending writes nothing; otherwise it consumes the message, whose type is a
supported one, and emits the one record its type selects, if the type's callback is registered and, for a Set type, this
node is a target. -/
def Obligations.DispatchConsumesAndEmits : Prop :=
  encode .dispatch = [0x28] ∧
  (∀ (s : State), s.rxValid = false → exec .dispatch s = .next { s with
    rsp := some { status := .noMessage, results := [] }, evt := none, sto := [] }) ∧
  (∀ (s : State), s.rxValid = true → (MsgType.ofByte s.rxType).isSome = true → exec .dispatch s = .next { s with
    rxValid := false
    rsp := some { status := .success, results := [] }, sto := []
    evt :=
      if s.rxType = 0x01 then
        if s.cbEn.beacon then some (.beacon (be32 (byteAt s.rxPayload 0) (byteAt s.rxPayload 1)
          (byteAt s.rxPayload 2) (byteAt s.rxPayload 3))) else none
      else if s.rxType = 0x10 then
        if s.cbEn.set1 = true ∧ halfAt s.rxPayload 1 = s.ownAddr
        then some (.set 0x10 s.ownAddr (byteAt s.rxPayload 0)) else none
      else if s.rxType = 0x11 then
        if s.cbEn.set2 = true ∧ (halfAt s.rxPayload 1 = s.ownAddr ∨ halfAt s.rxPayload 3 = s.ownAddr)
        then some (.set 0x11 s.ownAddr (byteAt s.rxPayload 0)) else none
      else
        if s.cbEn.set3 = true ∧ (halfAt s.rxPayload 1 = s.ownAddr ∨ halfAt s.rxPayload 3 = s.ownAddr ∨
          halfAt s.rxPayload 5 = s.ownAddr)
        then some (.set 0x12 s.ownAddr (byteAt s.rxPayload 0)) else none }) ∧
  (∀ (s : State), s.Inv → (s.initDone = false → s.rxValid = false) ∧
    (s.rxValid = true → (MsgType.ofByte s.rxType).isSome = true))

/-- R192: in any run of commands from a state with no message pending, events are at most as many as successful PROCESS
commands, and each comes from a DISPATCH. -/
def Obligations.AtMostOneEventPerAcceptedMessage : Prop :=
  ∀ (run : List Instr) (s : State), s.rxValid = false →
    (trace run s).countP (fun p => p.2.evt.isSome) ≤
      (trace run s).countP (fun p => isProcess p.1 && p.2.succeeded) ∧
    ∀ p ∈ trace run s, p.2.evt.isSome = true → p.1 = .dispatch ∧ p.2.succeeded = true

/-! ### The control commands -/

/-- R200, R201: INIT. `c` is the count the first one uses: the stored one, or 0 if that exceeds P; such a stored count
stays until the first add rewrites it to 1. In the loaded table the first in-epoch frame of a known peer is fresh. -/
def Obligations.InitLoadsTheTable : Prop :=
  (∀ (s : State), s.initDone = true → exec .init s = .next { s with
    rsp := some { status := .success, results := [] }, evt := none, sto := [] }) ∧
  (∀ (s : State) (c : Nat) (rst : Half) (reads writes : List StTxn), s.initDone = false → s.agentAnswers = true →
    c = (if (Memory.get s.storage (s.cfg.storageBase + 4 * s.cfg.peerCapacity)).toNat > s.cfg.peerCapacity then 0
      else (Memory.get s.storage (s.cfg.storageBase + 4 * s.cfg.peerCapacity)).toNat) →
    rst = be16 (Memory.get s.storage (s.cfg.storageBase + 4 * s.cfg.peerCapacity + 1))
      (Memory.get s.storage (s.cfg.storageBase + 4 * s.cfg.peerCapacity + 2)) + 1 →
    reads = [.read (s.cfg.storageBase + 4 * s.cfg.peerCapacity)] ++
      ((List.range c).flatMap fun i =>
        [.read (s.cfg.storageBase + 2 * i), .read (s.cfg.storageBase + 2 * i + 1),
          .read (s.cfg.storageBase + 2 * s.cfg.peerCapacity + 2 * i),
          .read (s.cfg.storageBase + 2 * s.cfg.peerCapacity + 2 * i + 1)]) ++
      [.read (s.cfg.storageBase + 4 * s.cfg.peerCapacity + 1), .read (s.cfg.storageBase + 4 * s.cfg.peerCapacity + 2)] →
    writes = [.write (s.cfg.storageBase + 4 * s.cfg.peerCapacity + 1) (hi rst),
      .write (s.cfg.storageBase + 4 * s.cfg.peerCapacity + 2) (lo rst), .commit] →
    encode .init = [0x01] ∧
    exec .init s = .next { s with
      peerCount := BitVec.ofNat 8 c
      peerAddr := (List.range s.cfg.peerCapacity).map fun i =>
        if i < c then be16 (Memory.get s.storage (s.cfg.storageBase + 2 * i))
          (Memory.get s.storage (s.cfg.storageBase + 2 * i + 1)) else 0
      peerRst := (List.range s.cfg.peerCapacity).map fun i =>
        if i < c then be16 (Memory.get s.storage (s.cfg.storageBase + 2 * s.cfg.peerCapacity + 2 * i))
          (Memory.get s.storage (s.cfg.storageBase + 2 * s.cfg.peerCapacity + 2 * i + 1)) else 0
      peerMsg := List.replicate s.cfg.peerCapacity 0
      ownRst := rst, ownMsg := 0, initDone := true
      storage := writes.foldl StTxn.store s.storage, committed := writes.foldl StTxn.store s.storage
      rsp := some { status := .success, results := [] }, evt := none, sto := reads ++ writes }) ∧
  (∀ (s t : State), s.initDone = false → Memory.wf s.storage → 1 ≤ s.cfg.peerCapacity → s.cfg.peerCapacity ≤ 255 →
    exec .init s = .next t →
    (s.cfg.peerCapacity < (Memory.get s.storage (s.cfg.storageBase + 4 * s.cfg.peerCapacity)).toNat →
      t.peerCount = 0 ∧
      Memory.get t.storage (s.cfg.storageBase + 4 * s.cfg.peerCapacity) =
        Memory.get s.storage (s.cfg.storageBase + 4 * s.cfg.peerCapacity) ∧
      ∀ a r m, ∃ u, checkAndUpdate a r m t = .next u ∧
        Memory.get u.storage (s.cfg.storageBase + 4 * s.cfg.peerCapacity) = 1) ∧
    ∀ i m, lookup t (t.peerAddr.getD i 0) = some i → 1 ≤ m →
      classify (t.peerAddr.getD i 0) (t.peerRst.getD i 0) m t = .advance i)

/-- R202: an INIT while INIT_DONE = 1 does nothing and answers ST_SUCCESS. -/
def Obligations.RepeatedInitDoesNothing : Prop :=
  ∀ (s : State), s.initDone = true → exec .init s = .next { s with
    rsp := some { status := .success, results := [] }, evt := none, sto := [] }

/-- R203: REGISTER_CB writes the one bit of its type, and for any other type answers ST_UNKNOWN_TYPE and writes none. -/
def Obligations.RegisterCbWritesOneBit : Prop :=
  ∀ (ty en : Byte) (on : Bool) (s : State), (on = true ↔ en ≠ 0x00) →
    encode (.registerCb ty en) = [0x02, ty, en] ∧
    exec (.registerCb ty en) s = .next { s with
      cbEn :=
        if ty = 0x01 then { s.cbEn with beacon := on } else if ty = 0x10 then { s.cbEn with set1 := on }
        else if ty = 0x11 then { s.cbEn with set2 := on } else if ty = 0x12 then { s.cbEn with set3 := on }
        else s.cbEn
      rsp := some { results := [], status :=
        if ty = 0x01 ∨ ty = 0x10 ∨ ty = 0x11 ∨ ty = 0x12 then .success else .unknownType }
      evt := none, sto := [] }

/-- R204 to R209: each query answers its register, most significant byte first, at any time, and writes nothing; it answers
0 after reset and after a PROCESS with a bad magic byte. RX_VALIDATION is answered as its code of R96. -/
def Obligations.QueriesAnswerTheirRegister : Prop :=
  (∀ (q : Instr) (op : Byte) (value : List Byte) (s : State),
    (q, op, value) ∈ [
      (Instr.queryRxSrc, (0x30 : Byte), [hi s.rxSrc, lo s.rxSrc]),
      (.queryRxDst, 0x31, [hi s.rxDst, lo s.rxDst]),
      (.queryRxType, 0x32, [s.rxType]),
      (.queryRxRst, 0x33, [hi s.rxRst, lo s.rxRst]),
      (.queryRxMsg, 0x34, [hi s.rxMsg, lo s.rxMsg]),
      (.queryRxValidation, 0x35, [match s.rxValidation with
        | .none => 0x00 | .success => 0x01 | .addedNewAddress => 0x02 | .atMaxAddresses => 0x03
        | .invalidResetCounter => 0x04 | .invalidMessageCounter => 0x05 | .invalidBuffer => 0x06
        | .wrongDestination => 0x07 | .unknownType => 0x08 | .checksumMismatch => 0x09 | .notInitialized => 0x0A
        | .noMessage => 0x0B | .badRange => 0x0C | .illegalCommand => 0x0D])] →
    encode q = [op] ∧
    ({ status := .success, results := value } : Response).bytes = 0x01 :: value ∧
    exec q s = .next { s with
      rsp := some { status := .success, results := value }, evt := none, sto := [] }) ∧
  (∀ (q : Instr) (t : State), q ∈ [Instr.queryRxSrc, .queryRxDst, .queryRxType, .queryRxRst, .queryRxMsg, .queryRxValidation] →
    ((∃ c content, t = State.powerOn c content) ∨
      ∃ s frame, s.initDone = true ∧ byteAt frame 0 ≠ 0xAA ∧ exec (.process frame) s = .next t) →
    ∃ u r, exec q t = .next u ∧ u.rsp = some r ∧ r.status = .success ∧ ∀ b ∈ r.results, b = 0x00)

/-! ### Beside the statements above -/

/-- The empty command frame is answered as an illegal command. The spec does not name it: this is the model's reading, log
entry 8. -/
def Obligations.EmptyFrameIsAnswered : Prop :=
  (∀ (b : Nat), decode b [] = .illegalCommand []) ∧
  (∀ (s : State) (rest : List Input), s.cfg.legal = true → s.input = .command [] :: rest →
    step s = .next { s with
      input := rest, rsp := some { status := .illegalCommand, results := [] }, evt := none, sto := [] })

/-- A CRC over a range that runs past the data, which no command computes (R122, R123), is the CRC of the bytes there are.
The spec gives it no value: this is the model's choice, log entry 17. -/
def Obligations.CrcPastTheDataStopsAtItsEnd : Prop :=
  ∀ (data : List Byte) (start length : Nat), data.length < start + length →
    crc16 data start length = crcSerial (data.drop start)

/-- DISPATCH of a pending message of unsupported type, a state no run reaches, consumes it and emits nothing. R190 gives its
case no default arm: this is the model's reading, log entry 14. -/
def Obligations.DispatchOfUnsupportedTypeEmitsNothing : Prop :=
  ∀ (s : State), s.rxValid = true → MsgType.ofByte s.rxType = none → exec .dispatch s = .next { s with
    rxValid := false, rsp := some { status := .success, results := [] }, evt := none, sto := [] }

/-- R95: the bytes of every response: the status code, and after ST_SUCCESS the opcode's result fields, big-endian. -/
def Obligations.ResponseBytesFollowTheTable : Prop :=
  ∀ (i : Instr) (s t : State), s.txbuf.length = s.cfg.wireBufSize → exec i s = .next t →
    ∃ r, t.rsp = some r ∧
      (r.status ≠ .success → r.bytes = [r.status.code]) ∧
      (r.status = .success → match i with
        | .crc16 _ start length data =>
          ∃ crc, crc = crc16 data start.toNat length.toNat ∧ r.bytes = [0x01, hi crc, lo crc]
        | .finalize => ∃ out, out.length = s.cfg.wireBufSize ∧ r.bytes = 0x01 :: s.txLen :: out
        | .queryRxSrc => r.bytes = [0x01, hi s.rxSrc, lo s.rxSrc]
        | .queryRxDst => r.bytes = [0x01, hi s.rxDst, lo s.rxDst]
        | .queryRxRst => r.bytes = [0x01, hi s.rxRst, lo s.rxRst]
        | .queryRxMsg => r.bytes = [0x01, hi s.rxMsg, lo s.rxMsg]
        | .queryRxType => r.bytes = [0x01, s.rxType]
        | .queryRxValidation => r.bytes = [0x01, s.rxValidation.code]
        | _ => r.bytes = [0x01])

/-- The codes of R96; no status has a reserved code (R97), and no two have the same. -/
def Obligations.StatusCodesFollowTheTable : Prop :=
  (∀ p ∈ ([(.none, 0x00), (.success, 0x01), (.addedNewAddress, 0x02), (.atMaxAddresses, 0x03),
      (.invalidResetCounter, 0x04), (.invalidMessageCounter, 0x05), (.invalidBuffer, 0x06), (.wrongDestination, 0x07),
      (.unknownType, 0x08), (.checksumMismatch, 0x09), (.notInitialized, 0x0A), (.noMessage, 0x0B), (.badRange, 0x0C),
      (.illegalCommand, 0x0D)] : List (Status × Byte)), p.1.code = p.2) ∧
  (∀ (st st' : Status), st.code ≤ 0x0D ∧ (st.code = st'.code → st = st'))

/-- R98: the bytes of every event record a command emits: for a Beacon `01` and the four uptime bytes of the payload; for a
Set message its type, OWN_ADDR and its level byte. -/
def Obligations.EventBytesFollowTheTwoShapes : Prop :=
  ∀ (i : Instr) (s t : State) (e : Event), exec i s = .next t → t.evt = some e →
    (s.rxType = 0x01 ∧
      e.bytes = [0x01, byteAt s.rxPayload 0, byteAt s.rxPayload 1, byteAt s.rxPayload 2, byteAt s.rxPayload 3]) ∨
    ((s.rxType = 0x10 ∨ s.rxType = 0x11 ∨ s.rxType = 0x12) ∧
      e.bytes = [s.rxType, hi s.ownAddr, lo s.ownAddr, byteAt s.rxPayload 0] ∧
      (halfAt s.rxPayload 1 = s.ownAddr ∨ (s.rxType ≠ 0x10 ∧ halfAt s.rxPayload 3 = s.ownAddr) ∨
        (s.rxType = 0x12 ∧ halfAt s.rxPayload 5 = s.ownAddr)))

/-- STORAGE_IMAGE (R8) and its replacement from outside (R242 step 2): byte k of the image is at offset S + k, at power-on
and after a power cycle with a new image, which otherwise is a power cycle. That a byte the image does not give is 0x00,
inside and outside [S, S + 4P + 3), is the model's choice, log entries 3 and 13. -/
def Obligations.ImageBytesGoToTheirOffsets : Prop :=
  (∀ (c : Config) (image : List Byte), Memory.wf (imageMemory c image) ∧
    (∀ k, k < 4 * c.peerCapacity + 3 → Memory.get (imageMemory c image) (c.storageBase + k) = byteAt image k) ∧
    (∀ a, a < c.storageBase ∨ c.storageBase + 4 * c.peerCapacity + 3 ≤ a → Memory.get (imageMemory c image) a = 0x00) ∧
    (State.powerOn c (imageMemory c image)).storage = imageMemory c image ∧
    (State.powerOn c (imageMemory c image)).committed = imageMemory c image) ∧
  (∀ (s : State) (image : List Byte) (rest : List Input), s.cfg.legal = true → s.input = .provision image :: rest →
    ∃ u, step { s with input := .powerCycle :: rest } = .next u ∧
      step s = .next { u with storage := imageMemory s.cfg image, committed := imageMemory s.cfg image })
end

