-- ==== Sys2Proof/Laws/Bytes.lean ====
section
/-! SUPPORT. Byte order and byte buffers: what each operation reads and writes. -/

namespace Sys2Proof.Machine

/-! ### Words and their bytes -/

@[simp] theorem be16_hi_lo (v : Half) : be16 (hi v) (lo v) = v := by
  apply BitVec.eq_of_getLsbD_eq
  intro i h
  simp only [be16, hi, lo, BitVec.getLsbD_append, BitVec.getLsbD_extractLsb']
  by_cases h8 : i < 8
  · simp [h8]
  · have : i - 8 < 8 := by omega
    simp [h8, this]
    congr 1; omega

@[simp] theorem hi_be16 (a b : Byte) : hi (be16 a b) = a := by
  apply BitVec.eq_of_getLsbD_eq
  intro i h
  simp only [be16, hi, BitVec.getLsbD_append, BitVec.getLsbD_extractLsb', h, decide_true, Bool.true_and]
  rw [if_neg (by omega)]
  congr 1; omega

@[simp] theorem lo_be16 (a b : Byte) : lo (be16 a b) = b := by
  apply BitVec.eq_of_getLsbD_eq
  intro i h
  simp only [be16, lo, BitVec.getLsbD_append, BitVec.getLsbD_extractLsb', h, decide_true, Bool.true_and]
  rw [if_pos (by omega)]
  congr 1; omega

theorem be16_inj {a b c d : Byte} (h : be16 a b = be16 c d) : a = c ∧ b = d := by
  constructor
  · simpa using congrArg hi h
  · simpa using congrArg lo h

theorem be32_wordBytes (v : Word) :
    be32 (v.extractLsb' 24 8) (v.extractLsb' 16 8) (v.extractLsb' 8 8) (v.extractLsb' 0 8) = v := by
  apply BitVec.eq_of_getLsbD_eq
  intro i h
  simp only [be32, BitVec.getLsbD_append, BitVec.getLsbD_extractLsb']
  by_cases h1 : i < 8
  · simp [h1]
  · by_cases h2 : i - 8 < 8
    · simp [h1, h2]; congr 1; omega
    · by_cases h3 : i - 8 - 8 < 8
      · simp [h1, h2, h3]; congr 1; omega
      · have h4 : i - 8 - 8 - 8 < 8 := by omega
        simp [h1, h2, h3, h4]; congr 1; omega

theorem wordBytes_be32 (a b c d : Byte) : wordBytes (be32 a b c d) = [a, b, c, d] := by
  simp only [wordBytes, List.cons.injEq, and_true]
  refine ⟨?_, ?_, ?_, ?_⟩ <;>
  · apply BitVec.eq_of_getLsbD_eq
    intro i h
    simp only [be32, BitVec.getLsbD_append, BitVec.getLsbD_extractLsb', h, decide_true, Bool.true_and]
    repeat' split
    all_goals first | (exfalso; omega) | (congr 1; omega)

@[simp] theorem halfBytes_length (v : Half) : (halfBytes v).length = 2 := rfl
@[simp] theorem wordBytes_length (v : Word) : (wordBytes v).length = 4 := rfl

/-! ### Byte buffers -/

@[simp] theorem byteAt_nil (k : Nat) : byteAt [] k = 0x00 := rfl
@[simp] theorem byteAt_cons_zero (b : Byte) (bs : List Byte) : byteAt (b :: bs) 0 = b := rfl
@[simp] theorem byteAt_cons_succ (b : Byte) (bs : List Byte) (k : Nat) :
    byteAt (b :: bs) (k + 1) = byteAt bs k := rfl

theorem byteAt_of_length_le {buf : List Byte} {k : Nat} (h : buf.length ≤ k) : byteAt buf k = 0x00 := by
  simp [byteAt, List.getD, List.getElem?_eq_none h]

theorem byteAt_append (x y : List Byte) (k : Nat) :
    byteAt (x ++ y) k = if k < x.length then byteAt x k else byteAt y (k - x.length) := by
  simp only [byteAt, List.getD, List.getElem?_append]
  split <;> rfl

theorem byteAt_take (x : List Byte) (n k : Nat) : byteAt (x.take n) k = if k < n then byteAt x k else 0x00 := by
  simp only [byteAt, List.getD, List.getElem?_take]
  split <;> rfl

theorem byteAt_drop (x : List Byte) (n k : Nat) : byteAt (x.drop n) k = byteAt x (n + k) := by
  simp [byteAt, List.getD, List.getElem?_drop]

@[simp] theorem byteAt_replicate_zero (n k : Nat) : byteAt (List.replicate n 0x00) k = 0x00 := by
  simp only [byteAt, List.getD, List.getElem?_replicate]
  split <;> rfl

theorem byteAt_set (buf : List Byte) (i k : Nat) (b : Byte) :
    byteAt (buf.set i b) k = if i = k ∧ k < buf.length then b else byteAt buf k := by
  simp only [byteAt, List.getD, List.getElem?_set]
  by_cases h : i = k
  · subst h
    by_cases h2 : i < buf.length
    · simp [h2]
    · simp [h2]
  · simp [h]

/-- Two buffers of one length with the same bytes are the same buffer. -/
theorem eq_of_byteAt {x y : List Byte} (hl : x.length = y.length) (h : ∀ k, k < x.length → byteAt x k = byteAt y k) :
    x = y := by
  apply List.ext_getElem hl
  intro k h1 h2
  have := h k h1
  simpa [byteAt, List.getD, List.getElem?_eq_getElem h1, List.getElem?_eq_getElem h2] using this

@[simp] theorem setBytes_length (bs : List Byte) : ∀ (buf : List Byte) (i : Nat), (setBytes buf i bs).length = buf.length := by
  induction bs with
  | nil => intros; rfl
  | cons b bs ih => intro buf i; simp [setBytes, ih]

/-- `setBytes` writes the bytes of `bs` at `i`, `i+1`, … and no others. -/
theorem byteAt_setBytes (bs : List Byte) : ∀ (buf : List Byte) (i k : Nat),
    byteAt (setBytes buf i bs) k =
      if i ≤ k ∧ k < i + bs.length ∧ k < buf.length then byteAt bs (k - i) else byteAt buf k := by
  induction bs with
  | nil => intro buf i k; simp only [setBytes, List.length_nil]; rw [if_neg]; omega
  | cons b bs ih =>
    intro buf i k
    simp only [setBytes, ih, byteAt_set, List.length_set, List.length_cons]
    by_cases hk : k < buf.length
    · by_cases h1 : i + 1 ≤ k
      · obtain ⟨d, rfl⟩ := Nat.exists_eq_add_of_le h1
        have e1 : i + 1 + d - (i + 1) = d := by omega
        have e2 : i + 1 + d - i = d + 1 := by omega
        have e3 : ¬ (i = i + 1 + d) := by omega
        rw [e1, e2, byteAt_cons_succ]
        simp only [e3, false_and, if_false]
        congr 1
        exact propext (by omega)
      · rw [if_neg (by omega)]
        by_cases h2 : i = k
        · subst h2; rw [if_pos ⟨rfl, hk⟩, if_pos (by omega)]; simp
        · rw [if_neg (by omega), if_neg (by omega)]
    · rw [if_neg (by omega), if_neg (by omega), if_neg (by omega)]

@[simp] theorem clearFrom_length (buf : List Byte) (i : Nat) : (clearFrom buf i).length = buf.length := by
  simp [clearFrom]; omega

theorem byteAt_clearFrom (buf : List Byte) (i k : Nat) :
    byteAt (clearFrom buf i) k = if k < i then byteAt buf k else 0x00 := by
  simp only [clearFrom, byteAt_append, byteAt_take, byteAt_replicate_zero, List.length_take]
  by_cases h : k < i
  · by_cases h2 : k < buf.length
    · simp [h, h2]
    · simp only [h, if_true, byteAt_of_length_le (Nat.le_of_not_lt h2)]
      split <;> rfl
  · simp [h]

end Sys2Proof.Machine
end

