-- ==== Sys2Proof/Laws/Memory.lean ====
section
/-! SUPPORT. Storage content: read after write, and the canonical form every operation keeps. -/

namespace Sys2Proof.Machine

/-! ### Reading and writing one byte -/

theorem Memory.get_put_other (m : Memory) (a a' : Nat) (b : Byte) (h : a' ≠ a) :
    Memory.get (Memory.put m a b) a' = Memory.get m a' := by
  induction m with
  | nil => simp only [Memory.put]; split <;> simp [Memory.get, h]
  | cons c rest ih =>
    obtain ⟨k, v⟩ := c
    simp only [Memory.put]
    split
    · split
      · rfl
      · simp [Memory.get, h]
    · split
      · next h2 =>
        subst h2
        split <;> simp [Memory.get, h]
      · simp [Memory.get, ih]

theorem Memory.get_eq_zero_of_lt {m : Memory} {a : Nat} (h : ∀ c ∈ m, a < c.1) : Memory.get m a = 0x00 := by
  induction m with
  | nil => rfl
  | cons c rest ih =>
    have h1 := h c (by simp)
    simp only [Memory.get]
    rw [if_neg (by omega)]
    exact ih fun d hd => h d (by simp [hd])

theorem Memory.wf_cons {c : Host.Cell} {rest : Memory} :
    Memory.wf (c :: rest) ↔ (∀ d ∈ rest, c.1 < d.1) ∧ c.2 ≠ 0x00 ∧ Memory.wf rest := by
  simp only [Memory.wf, List.pairwise_cons, List.mem_cons, forall_eq_or_imp]
  tauto

theorem Memory.get_put_same {m : Memory} (hm : Memory.wf m) (a : Nat) (b : Byte) :
    Memory.get (Memory.put m a b) a = b := by
  induction m with
  | nil =>
    simp only [Memory.put]
    split
    · next hb => rw [hb]; rfl
    · simp [Memory.get]
  | cons c rest ih =>
    obtain ⟨k, v⟩ := c
    obtain ⟨h1, h2, h3⟩ := Memory.wf_cons.mp hm
    simp only at h1 h2
    have hz : a ≤ k → Memory.get rest a = 0x00 := fun hle =>
      Memory.get_eq_zero_of_lt fun d hd => Nat.lt_of_le_of_lt hle (h1 d hd)
    simp only [Memory.put]
    split
    · next h =>
      split
      · next hb => simp only [Memory.get]; rw [if_neg (by omega), hz (by omega), hb]
      · simp [Memory.get]
    · split
      · next h =>
        split
        · next hb => rw [hz (by omega), hb]
        · simp [Memory.get]
      · next hne => simp [Memory.get, hne, ih h3]

theorem Memory.get_put {m : Memory} (hm : Memory.wf m) (a a' : Nat) (b : Byte) :
    Memory.get (Memory.put m a b) a' = if a' = a then b else Memory.get m a' := by
  split
  · next h => rw [h, Memory.get_put_same hm]
  · next h => exact Memory.get_put_other m a a' b h

/-! ### The canonical form is kept -/

@[simp] theorem Memory.wf_nil : Memory.wf [] := by simp [Memory.wf]

theorem Memory.put_keys {m : Memory} {a : Nat} {b : Byte} {c : Host.Cell} (h : c ∈ Memory.put m a b) :
    c.1 = a ∨ c ∈ m := by
  induction m with
  | nil =>
    simp only [Memory.put] at h
    split at h
    · simp at h
    · simp at h; simp [h]
  | cons d rest ih =>
    obtain ⟨k, v⟩ := d
    simp only [Memory.put] at h
    split at h
    · split at h
      · exact .inr h
      · rcases List.mem_cons.mp h with h | h
        · simp [h]
        · exact .inr h
    · split at h
      · split at h
        · exact .inr (List.mem_cons_of_mem _ h)
        · rcases List.mem_cons.mp h with h | h
          · simp [h]
          · exact .inr (List.mem_cons_of_mem _ h)
      · rcases List.mem_cons.mp h with h | h
        · exact .inr (by simp [h])
        · rcases ih h with h | h
          · exact .inl h
          · exact .inr (List.mem_cons_of_mem _ h)

theorem Memory.put_wf {m : Memory} (hm : Memory.wf m) (a : Nat) (b : Byte) : Memory.wf (Memory.put m a b) := by
  induction m with
  | nil =>
    simp only [Memory.put]
    split
    · exact Memory.wf_nil
    · next hb => exact ⟨List.pairwise_singleton _ _, fun c hc => by rw [List.mem_singleton.mp hc]; exact hb⟩
  | cons c rest ih =>
    obtain ⟨k, v⟩ := c
    obtain ⟨h1, h2, h3⟩ := Memory.wf_cons.mp hm
    simp only at h1 h2
    simp only [Memory.put]
    split
    · next hlt =>
      split
      · exact hm
      · next hb =>
        refine Memory.wf_cons.mpr ⟨?_, hb, hm⟩
        intro d hd
        rcases List.mem_cons.mp hd with rfl | hd
        · exact hlt
        · exact Nat.lt_trans hlt (h1 d hd)
    · split
      · next he =>
        split
        · exact h3
        · next hb => exact Memory.wf_cons.mpr ⟨fun d hd => he ▸ h1 d hd, hb, h3⟩
      · refine Memory.wf_cons.mpr ⟨?_, h2, ih h3⟩
        intro d hd
        rcases Memory.put_keys hd with h | h
        · simp only [h]; omega
        · exact h1 d h

theorem Memory.putBytes_wf (bs : List Byte) : ∀ {m : Memory} (a : Nat), Memory.wf m → Memory.wf (Memory.putBytes m a bs) := by
  induction bs with
  | nil => intro m a h; exact h
  | cons b bs ih => intro m a h; exact ih (a + 1) (Memory.put_wf h a b)

/-- Everything `putBytes` does, seen through a read of one byte. -/
theorem Memory.get_putBytes (bs : List Byte) : ∀ {m : Memory} (a x : Nat), Memory.wf m →
    Memory.get (Memory.putBytes m a bs) x = if a ≤ x ∧ x < a + bs.length then bs.getD (x - a) 0x00 else Memory.get m x := by
  induction bs with
  | nil =>
    intro m a x _
    have : ¬ (a ≤ x ∧ x < a + ([] : List Byte).length) := by simp
    simp only [Memory.putBytes, if_neg this]
  | cons b bs ih =>
    intro m a x hm
    rw [Memory.putBytes, ih (a + 1) x (Memory.put_wf hm a b), Memory.get_put hm]
    by_cases hx : x = a
    · subst hx
      simp
    · by_cases h : a + 1 ≤ x
      · have e : x - a = (x - (a + 1)) + 1 := by omega
        have c : (a ≤ x ∧ x < a + (b :: bs).length) ↔ (a + 1 ≤ x ∧ x < a + 1 + bs.length) := by
          simp only [List.length_cons]
          omega
        simp only [c, e, List.getD_cons_succ, hx, if_false]
      · have n1 : ¬ (a + 1 ≤ x ∧ x < a + 1 + bs.length) := fun q => h q.1
        have n2 : ¬ (a ≤ x ∧ x < a + (b :: bs).length) := fun q => by omega
        simp only [if_neg n1, if_neg n2, hx, if_false]

theorem imageMemory_wf (c : Config) (image : List Byte) : Memory.wf (imageMemory c image) :=
  Memory.putBytes_wf _ _ Memory.wf_nil

theorem StTxn.store_wf (t : StTxn) {m : Memory} (h : Memory.wf m) : Memory.wf (StTxn.store m t) := by
  cases t with
  | read _ => exact h
  | write off b => exact Memory.put_wf h off b
  | commit => exact h

theorem foldl_store_wf (ts : List StTxn) : ∀ {m : Memory}, Memory.wf m → Memory.wf (ts.foldl StTxn.store m) := by
  induction ts with
  | nil => intro m h; exact h
  | cons t ts ih => intro m h; exact ih (t.store_wf h)

theorem foldl_put_wf (f : Nat → Byte) (as : List Nat) :
    ∀ {m : Memory}, Memory.wf m → Memory.wf (as.foldl (fun m a => Memory.put m a (f a)) m) := by
  induction as with
  | nil => intro m h; exact h
  | cons a as ih => intro m h; exact ih (Memory.put_wf h a _)

theorem powerLossContent_wf (d : Nat) {cur com : Memory} (h : Memory.wf com) : Memory.wf (powerLossContent d cur com) := by
  unfold powerLossContent
  split
  · exact h
  · exact foldl_put_wf (fun a => if Config.keepsNewByte d a then Memory.get cur a else Memory.get com a) _ h

theorem powerLossContent_self (d : Nat) (m : Memory) : powerLossContent d m m = m := by simp [powerLossContent]

theorem foldl_put_get (f : Nat → Byte) (as : List Nat) : ∀ {m : Memory}, Memory.wf m → ∀ a,
    Memory.get (as.foldl (fun m a => Memory.put m a (f a)) m) a = if a ∈ as then f a else Memory.get m a := by
  induction as with
  | nil => intro m _ a; simp
  | cons x as ih =>
    intro m hm a
    simp only [List.foldl_cons, ih (Memory.put_wf hm x _), Memory.get_put hm, List.mem_cons]
    by_cases h1 : a ∈ as
    · simp [h1]
    · by_cases h2 : a = x <;> simp [h1, h2]

/-- Every byte after a power loss is the committed one or the current one (R55). -/
theorem powerLossContent_get (d : Nat) {cur com : Memory} (h : Memory.wf com) (a : Nat) :
    Memory.get (powerLossContent d cur com) a = Memory.get com a ∨
    Memory.get (powerLossContent d cur com) a = Memory.get cur a := by
  unfold powerLossContent
  split
  · exact .inl rfl
  · rw [foldl_put_get (fun a => if Config.keepsNewByte d a then Memory.get cur a else Memory.get com a) _ h]
    split
    · split
      · exact .inr rfl
      · exact .inl rfl
    · exact .inl rfl

/-- In canonical form, memories that read alike are equal. -/
theorem Memory.ext {m m' : Memory} (h : Memory.wf m) (h' : Memory.wf m')
    (hg : ∀ a, Memory.get m a = Memory.get m' a) : m = m' := by
  induction m generalizing m' with
  | nil =>
    cases m' with
    | nil => rfl
    | cons c rest =>
      obtain ⟨h1, h2, _⟩ := Memory.wf_cons.mp h'
      have := hg c.1
      simp [Memory.get] at this
      exact absurd this.symm h2
  | cons c rest ih =>
    obtain ⟨h1, h2, h3⟩ := Memory.wf_cons.mp h
    cases m' with
    | nil =>
      have := hg c.1
      simp [Memory.get] at this
      exact absurd this h2
    | cons d rest' =>
      obtain ⟨h1', h2', h3'⟩ := Memory.wf_cons.mp h'
      obtain ⟨k, v⟩ := c
      obtain ⟨k', v'⟩ := d
      simp only at h1 h2 h1' h2'
      have hz : ∀ a, a ≤ k → Memory.get rest a = 0x00 := fun a ha =>
        Memory.get_eq_zero_of_lt fun d hd => Nat.lt_of_le_of_lt ha (h1 d hd)
      have hz' : ∀ a, a ≤ k' → Memory.get rest' a = 0x00 := fun a ha =>
        Memory.get_eq_zero_of_lt fun d hd => Nat.lt_of_le_of_lt ha (h1' d hd)
      have hk : k = k' := by
        by_contra hne
        rcases Nat.lt_or_gt_of_ne hne with hlt | hlt
        · have := hg k
          simp only [Memory.get, if_true, if_neg hne, hz' k (by omega)] at this
          exact h2 this
        · have := hg k'
          simp only [Memory.get, if_true, if_neg (Ne.symm hne), hz k' (by omega)] at this
          exact h2' this.symm
      subst hk
      have hv : v = v' := by have := hg k; simpa [Memory.get] using this
      subst hv
      congr 1
      refine ih h3 h3' fun a => ?_
      by_cases ha : a = k
      · subst ha; rw [hz a (Nat.le_refl _), hz' a (Nat.le_refl _)]
      · have := hg a; simpa [Memory.get, ha] using this

/-! ### Big-endian halves -/

theorem Memory.getHalf_put_other (m : Memory) (a x : Nat) (b : Byte) (h1 : x ≠ a) (h2 : x ≠ a + 1) :
    Memory.getHalf (Memory.put m x b) a = Memory.getHalf m a := by
  simp [Memory.getHalf, Memory.get_put_other _ _ _ _ (Ne.symm h1), Memory.get_put_other _ _ _ _ (Ne.symm h2)]

/-- What `MemWrite(off, 2, v)` stores, `MemRead(off, 2)` reads back (R13). -/
theorem Memory.getHalf_writeHalf {m : Memory} (hm : Memory.wf m) (a : Nat) (v : Half) :
    Memory.getHalf ((writeHalfTxns a v).foldl StTxn.store m) a = v := by
  simp only [writeHalfTxns, List.foldl_cons, List.foldl_nil, StTxn.store, Memory.getHalf]
  rw [Memory.get_put_other _ _ _ _ (by omega), Memory.get_put_same hm, Memory.get_put_same (Memory.put_wf hm _ _),
    be16_hi_lo]

theorem Memory.getHalf_writeHalf_other (m : Memory) (a x : Nat) (v : Half) (h : x + 1 < a ∨ a + 1 < x) :
    Memory.getHalf ((writeHalfTxns x v).foldl StTxn.store m) a = Memory.getHalf m a := by
  simp only [writeHalfTxns, List.foldl_cons, List.foldl_nil, StTxn.store]
  rw [Memory.getHalf_put_other _ _ _ _ (by omega) (by omega), Memory.getHalf_put_other _ _ _ _ (by omega) (by omega)]

theorem Memory.get_writeHalf_other (m : Memory) (a x : Nat) (v : Half) (h1 : a ≠ x) (h2 : a ≠ x + 1) :
    Memory.get ((writeHalfTxns x v).foldl StTxn.store m) a = Memory.get m a := by
  simp only [writeHalfTxns, List.foldl_cons, List.foldl_nil, StTxn.store]
  rw [Memory.get_put_other _ _ _ _ h2, Memory.get_put_other _ _ _ _ h1]

end Sys2Proof.Machine
end

