-- ==== Sys2Proof/Laws/Storage.lean ====
section
/-! SUPPORT. The storage port: what a list of transactions does, said once. -/

namespace Sys2Proof.Machine

/-! ### Sequencing -/

@[simp] theorem andThen_next (s : State) (k : State → Host.Outcome State Fault Refusal) :
    andThen (.next s) k = k s := rfl

@[simp] theorem andThen_fault (f : Fault) (k : State → Host.Outcome State Fault Refusal) :
    andThen (.fault f) k = .fault f := rfl

@[simp] theorem andThen_refused (r : Refusal) (k : State → Host.Outcome State Fault Refusal) :
    andThen (.refused r) k = .refused r := rfl

/-- A sequence answers a next state exactly when both parts do. -/
theorem andThen_eq_next {o : Host.Outcome State Fault Refusal} {k : State → Host.Outcome State Fault Refusal} {t : State} :
    andThen o k = .next t ↔ ∃ u, o = .next u ∧ k u = .next t := by
  cases o <;> simp

/-! ### Transactions -/

/-- The durable content after transactions from current content `m` and durable content `d`. -/
def commitFold (m d : Memory) : List StTxn → Memory
  | [] => d
  | t :: ts => commitFold (t.store m) (if t = .commit then m else d) ts

/-- The state after transactions the agent answered: storage, durable content and the record of STO change, nothing else. -/
def afterTxns (ts : List StTxn) (s : State) : State :=
  { s with
    storage := ts.foldl StTxn.store s.storage
    committed := commitFold s.storage s.committed ts
    sto := s.sto ++ ts }

/-- When `issue` answers a next state, and which (R53, R62): the agent answers and every offset is backed. -/
theorem issue_eq_next (ts : List StTxn) : ∀ {s t : State},
    issue ts s = .next t ↔
      (ts ≠ [] → s.agentAnswers = true) ∧ (∀ x ∈ ts, x.inRange s.cfg = true) ∧ t = afterTxns ts s := by
  induction ts with
  | nil =>
    intro s t
    have : afterTxns [] s = s := by simp [afterTxns, commitFold]
    simp only [issue, Host.Outcome.next.injEq, ne_eq, not_true_eq_false, List.not_mem_nil, false_implies, this,
      implies_true, true_and]
    exact eq_comm
  | cons x ts ih =>
    intro s t
    simp only [issue, andThen_eq_next, transact]
    by_cases ha : s.agentAnswers = true
    · by_cases hx : x.inRange s.cfg = true
      · simp [ha, hx, ih, afterTxns, commitFold]
      · simp [ha, hx]
    · simp [ha]

theorem issue_completes {ts : List StTxn} {s : State} (ha : ts ≠ [] → s.agentAnswers = true)
    (hr : ∀ x ∈ ts, x.inRange s.cfg = true) : issue ts s = .next (afterTxns ts s) :=
  (issue_eq_next ts).mpr ⟨ha, hr, rfl⟩

/-- With a silent agent any transaction at all is stuck (R232 (b)). -/
theorem issue_silent {ts : List StTxn} {s : State} (ha : s.agentAnswers = false) (hn : ts ≠ []) :
    issue ts s = .fault .storageAgentSilent := by
  cases ts with
  | nil => exact absurd rfl hn
  | cons x ts => simp [issue, transact, ha]

/-- In-range transactions never end otherwise than in the next state or, the agent silent, stuck. -/
theorem issue_of_inRange {ts : List StTxn} {s : State} (hr : ∀ x ∈ ts, x.inRange s.cfg = true) :
    issue ts s = .next (afterTxns ts s) ∨
      (s.agentAnswers = false ∧ ts ≠ [] ∧ issue ts s = .fault .storageAgentSilent) := by
  by_cases hn : ts = []
  · subst hn; exact .inl (issue_completes (by simp) hr)
  · cases ha : s.agentAnswers with
    | true => exact .inl (issue_completes (fun _ => ha) hr)
    | false => exact .inr ⟨rfl, hn, issue_silent ha hn⟩

theorem commitFold_append (xs ys : List StTxn) : ∀ m d : Memory,
    commitFold m d (xs ++ ys) = commitFold (xs.foldl StTxn.store m) (commitFold m d xs) ys := by
  induction xs with
  | nil => intros; rfl
  | cons x xs ih => intro m d; simp [commitFold, ih]

/-- A commit at the end makes everything durable (R53, R63). -/
@[simp] theorem commitFold_commit (xs : List StTxn) (m d : Memory) :
    commitFold m d (xs ++ [.commit]) = xs.foldl StTxn.store m := by
  simp [commitFold_append, commitFold]

/-- Without a commit nothing becomes durable. -/
theorem commitFold_of_no_commit (ts : List StTxn) : ∀ (m d : Memory), StTxn.commit ∉ ts → commitFold m d ts = d := by
  induction ts with
  | nil => intros; rfl
  | cons t ts ih =>
    intro m d h
    simp only [List.mem_cons, not_or] at h
    simp [commitFold, Ne.symm h.1, ih _ _ h.2]

@[simp] theorem foldl_store_commit (xs : List StTxn) (m : Memory) :
    (xs ++ [StTxn.commit]).foldl StTxn.store m = xs.foldl StTxn.store m := by
  simp [List.foldl_append, StTxn.store]

/-! ### Offsets -/

theorem backed_iff (c : Config) (off : Nat) :
    backed c off = true ↔ c.storageBase ≤ off ∧ off < c.storageBase + (4 * c.peerCapacity + 3) := by
  unfold backed imageSize
  exact decide_eq_true_iff

theorem ownRstTxns_inRange (c : Config) (v : Half) :
    ∀ x ∈ writeHalfTxns (ownRstOff c) v ++ [StTxn.commit], x.inRange c = true := by
  intro x hx
  simp only [writeHalfTxns, List.cons_append, List.nil_append, List.mem_cons, List.not_mem_nil, or_false] at hx
  rcases hx with rfl | rfl | rfl <;> simp [StTxn.inRange, backed_iff, ownRstOff] <;> omega

end Sys2Proof.Machine
end

