-- ==== Sys2Proof/Laws/Tracker.lean ====
section
/-! SUPPORT. The anti-replay state machine: what lookup, the comparator and `check_and_update` do. -/

namespace Sys2Proof.Machine

/-! ### Lookup and the comparator -/

/-- What `lookup` finds (R171): the first index below PEER_COUNT whose address matches. -/
theorem lookup_eq_some {s : State} {a : Half} {i : Nat} :
    lookup s a = some i ↔ i < s.peerCount.toNat ∧ i < s.peerAddr.length ∧ s.peerAddr.getD i 0 = a ∧
      ∀ j, j < i → s.peerAddr.getD j 0 ≠ a := by
  unfold lookup
  rw [List.findIdx?_eq_some_iff_getElem]
  simp only [List.length_take, List.getElem_take, beq_iff_eq]
  constructor
  · rintro ⟨h, h1, h2⟩
    refine ⟨by omega, by omega, ?_, ?_⟩
    · rw [List.getD_eq_getElem _ _ (by omega)]; exact h1
    · intro j hj
      rw [List.getD_eq_getElem _ _ (by omega)]
      exact h2 j hj
  · rintro ⟨h1, h2, h3, h4⟩
    refine ⟨by omega, ?_, ?_⟩
    · rw [List.getD_eq_getElem _ _ h2] at h3; exact h3
    · intro j hj
      have := h4 j hj
      rwa [List.getD_eq_getElem _ _ (by omega)] at this

/-- When `lookup` finds nothing: no entry below PEER_COUNT matches (R171). -/
theorem lookup_eq_none {s : State} {a : Half} :
    lookup s a = none ↔ ∀ j, j < s.peerCount.toNat → j < s.peerAddr.length → s.peerAddr.getD j 0 ≠ a := by
  unfold lookup
  rw [List.findIdx?_eq_none_iff]
  constructor
  · intro h j h1 h2
    rw [List.getD_eq_getElem _ _ h2]
    have := h s.peerAddr[j] (List.mem_take_iff_getElem.mpr ⟨j, by omega, rfl⟩)
    simpa using this
  · intro h x hx
    obtain ⟨j, hj, rfl⟩ := List.mem_take_iff_getElem.mp hx
    have := h j (by omega) (by omega)
    rw [List.getD_eq_getElem _ _ (by omega)] at this
    simpa using this

/-- The comparator depends on the table alone. -/
theorem classify_congr {s t : State} (hc : t.cfg = s.cfg) (hn : t.peerCount = s.peerCount) (ha : t.peerAddr = s.peerAddr)
    (hr : t.peerRst = s.peerRst) (hm : t.peerMsg = s.peerMsg) (a r m : Half) : classify a r m t = classify a r m s := by
  simp only [classify, lookup, hc, hn, ha, hr, hm]

/-- A row that names an index names the found one (R174, R177). -/
theorem classify_index {a r m : Half} {s : State} {i : Nat}
    (h : classify a r m s = .restart i ∨ classify a r m s = .advance i) : lookup s a = some i := by
  unfold classify at h
  split at h
  · split at h <;> simp at h
  · next j hj =>
    rw [hj]
    repeat' split at h
    all_goals simp at h
    all_goals rw [h]

/-- An entry is added only while the table has room (R172). -/
theorem classify_add {a r m : Half} {s : State} (h : classify a r m s = .add) :
    s.peerCount.toNat < s.cfg.peerCapacity ∧ lookup s a = none := by
  unfold classify at h
  split at h
  · next hn => split at h <;> simp_all
  · repeat' split at h
    all_goals simp at h

/-- Every transaction of `check_and_update` lies in the image (R54, R178). -/
theorem freshness_txns_inRange {a r m : Half} {s : State} (hc : s.peerCount.toNat ≤ s.cfg.peerCapacity) :
    ∀ x ∈ (classify a r m s).txns s.cfg s.peerCount a r, x.inRange s.cfg = true := by
  intro x hx
  cases hcl : classify a r m s with
  | add =>
    have := (classify_add hcl).1
    rw [hcl] at hx
    simp only [Freshness.txns, writeHalfTxns, List.cons_append, List.nil_append, List.mem_cons, List.not_mem_nil,
      or_false] at hx
    rcases hx with rfl | rfl | rfl | rfl | rfl | rfl <;>
      simp [StTxn.inRange, backed_iff, peerAddrOff, peerRstOff, countOff] <;> omega
  | restart i =>
    have := (lookup_eq_some.mp (classify_index (.inl hcl))).1
    rw [hcl] at hx
    simp only [Freshness.txns, writeHalfTxns, List.cons_append, List.nil_append, List.mem_cons, List.not_mem_nil,
      or_false] at hx
    rcases hx with rfl | rfl | rfl <;> simp [StTxn.inRange, backed_iff, peerRstOff] <;> omega
  | full => rw [hcl] at hx; simp [Freshness.txns] at hx
  | stale => rw [hcl] at hx; simp [Freshness.txns] at hx
  | advance i => rw [hcl] at hx; simp [Freshness.txns] at hx
  | replay => rw [hcl] at hx; simp [Freshness.txns] at hx

@[simp] theorem updateTable_cfg (a r m : Half) (s : State) (f : Freshness) : (f.updateTable a r m s).cfg = s.cfg := by
  cases f <;> rfl

@[simp] theorem updateTable_agentAnswers (a r m : Half) (s : State) (f : Freshness) :
    (f.updateTable a r m s).agentAnswers = s.agentAnswers := by
  cases f <;> rfl

/-- When `check_and_update` answers a next state, and which (R170, R178). -/
theorem checkAndUpdate_eq_next {a r m : Half} {s t : State} (hc : s.peerCount.toNat ≤ s.cfg.peerCapacity) :
    checkAndUpdate a r m s = .next t ↔
      ((classify a r m s).txns s.cfg s.peerCount a r ≠ [] → s.agentAnswers = true) ∧
      t = afterTxns ((classify a r m s).txns s.cfg s.peerCount a r) ((classify a r m s).updateTable a r m s) := by
  unfold checkAndUpdate
  rw [issue_eq_next]
  simp only [updateTable_agentAnswers, updateTable_cfg]
  constructor
  · rintro ⟨h1, _, h3⟩; exact ⟨h1, h3⟩
  · rintro ⟨h1, h3⟩; exact ⟨h1, freshness_txns_inRange hc, h3⟩

/-- A rejecting outcome writes nothing (R179). -/
theorem updateTable_of_rejecting {a r m : Half} {s : State} {f : Freshness} (h : f.status.accepting = false) :
    f.updateTable a r m s = s := by
  cases f <;> first | rfl | simp [Freshness.status, Status.accepting] at h

end Sys2Proof.Machine
end

