-- ==== Sys2Proof/Laws/Parser.lean ====
section
/-! SUPPORT. PROCESS: the ways it ends, said once. -/

namespace Sys2Proof.Machine

/-! ### PROCESS -/

/-- The state PROCESS steps 5 to 8 end in (R150). -/
def judged (f : List Byte) (v : Status) (s : State) : State :=
  match MsgType.ofByte s.rxType with
  | none => s.respond .unknownType []
  | some t =>
    if checksumOk f t.payloadLen then
      if v.accepting then ((s.stagePayload f t.payloadLen).markValid).respond .success []
      else (s.stagePayload f t.payloadLen).respond v []
    else (s.stagePayload f t.payloadLen).respond .checksumMismatch []

theorem judge_eq (f : List Byte) (v : Status) (s : State) : judge f v s = .next (judged f v s) := by
  unfold judge judged
  cases MsgType.ofByte s.rxType with
  | none => rfl
  | some t => cases h1 : checksumOk f t.payloadLen <;> cases h2 : v.accepting <;> simp [h1, raise, finish]

/-- What the freshness check and what follows it end in, and when (R150 steps 4 to 8). -/
theorem checkFreshness_eq_next {f : List Byte} {s t : State} (hc : s.peerCount.toNat ≤ s.cfg.peerCapacity) :
    checkFreshness f s = .next t ↔
      ((classify s.rxSrc s.rxRst s.rxMsg s).txns s.cfg s.peerCount s.rxSrc s.rxRst ≠ [] → s.agentAnswers = true) ∧
      t = judged f (classify s.rxSrc s.rxRst s.rxMsg s).status
        ((afterTxns ((classify s.rxSrc s.rxRst s.rxMsg s).txns s.cfg s.peerCount s.rxSrc s.rxRst)
          ((classify s.rxSrc s.rxRst s.rxMsg s).updateTable s.rxSrc s.rxRst s.rxMsg s)).recordValidation
            (classify s.rxSrc s.rxRst s.rxMsg s).status) := by
  unfold checkFreshness
  simp only [andThen_eq_next, judge_eq, Host.Outcome.next.injEq]
  constructor
  · rintro ⟨u, hu, rfl⟩
    obtain ⟨h1, rfl⟩ := (checkAndUpdate_eq_next hc).mp hu
    exact ⟨h1, rfl⟩
  · rintro ⟨h1, rfl⟩
    exact ⟨_, (checkAndUpdate_eq_next hc).mpr ⟨h1, rfl⟩, rfl⟩

/-- The four ways PROCESS ends (R150): gate, magic, destination, or the freshness check and what follows. -/
theorem processFrame_cases {f : List Byte} {s t : State} (h : processFrame f s = .next t) :
    (s.initDone = false ∧ t = s.respond .notInitialized []) ∨
    (s.initDone = true ∧ byteAt f 0 ≠ magic ∧ t = s.clearRx.zeroHeader.respond .invalidBuffer []) ∨
    (s.initDone = true ∧ byteAt f 0 = magic ∧ destinationOk s.ownAddr (frameDst f) = false ∧
      t = (s.clearRx.loadHeader f).respond .wrongDestination []) ∨
    (s.initDone = true ∧ byteAt f 0 = magic ∧ destinationOk s.ownAddr (frameDst f) = true ∧
      checkFreshness f (s.clearRx.loadHeader f) = .next t) := by
  unfold processFrame at h
  cases hi : s.initDone with
  | false => simp [hi, raise] at h; exact .inl ⟨rfl, h.symm⟩
  | true =>
    by_cases hm : byteAt f 0 = magic
    · cases hd : destinationOk s.ownAddr (frameDst f) with
      | false => simp [hi, hm, hd, raise] at h; exact .inr (.inr (.inl ⟨rfl, hm, rfl, h.symm⟩))
      | true => simp [hi, hm, hd] at h; exact .inr (.inr (.inr ⟨rfl, hm, rfl, h⟩))
    · simp [hi, hm, raise] at h; exact .inr (.inl ⟨rfl, hm, h.symm⟩)

/-- A PROCESS that passes the gate, the magic and the destination check is its freshness check. -/
theorem processFrame_fresh {f : List Byte} {s : State} (hi : s.initDone = true) (hm : byteAt f 0 = magic)
    (hd : destinationOk s.ownAddr (frameDst f) = true) :
    processFrame f s = checkFreshness f (s.clearRx.loadHeader f) := by
  simp [processFrame, hi, hm, hd]

theorem destinationOk_iff (own dst : Half) : destinationOk own dst = true ↔ dst = own ∨ dst = broadcast := by
  simp [destinationOk]

/-- The comparator sees the same table before and after the start-of-command clears and the header extraction. -/
theorem classify_loadHeader (a r m : Half) (f : List Byte) (s : State) :
    classify a r m (s.beginCommand.clearRx.loadHeader f) = classify a r m s :=
  classify_congr rfl rfl rfl rfl rfl a r m

end Sys2Proof.Machine
end

