-- ==== Sys2Proof/Laws/PerInstr.lean ====
section
/-! SUPPORT. What is proved per command: the encoded frame has the length its opcode gives (spec 30_encoding R94, R100),
and no illegal command has. -/

namespace Sys2Proof.Laws.EncodedLength

open Sys2Proof.Machine

/-- Whether a command is one of the legal ones. -/
def legal : Instr → Bool
  | .illegalCommand _ => false
  | _ => true

/-- The encoded frame of a well-formed command has the length of its opcode exactly when the command is legal. -/
def Statement (i : Instr) : Prop :=
  ∀ b, wellFormed b i = true → (commandLength b (encode i) = some (encode i).length ↔ legal i = true)

theorem init : Statement .init := fun _ _ => by simp [encode, commandLength, legal]
theorem registerCb (type en : Byte) : Statement (.registerCb type en) := fun _ _ => by
  simp [encode, commandLength, legal]

theorem crc16 (l start length : Half) (data : List Byte) : Statement (.crc16 l start length data) := fun _ h => by
  simp only [wellFormed, beq_iff_eq] at h
  simp [encode, commandLength, legal, halfBytes, be16_hi_lo, h]
  omega
theorem buildBeacon (uptime : Word) : Statement (.buildBeacon uptime) := fun _ _ => by
  simp [encode, commandLength, legal, wordBytes]
theorem buildSet1 (dest : Half) (level : Byte) (a1 : Half) : Statement (.buildSet1 dest level a1) := fun _ _ => by
  simp [encode, commandLength, legal, halfBytes]
theorem buildSet2 (dest : Half) (level : Byte) (a1 a2 : Half) : Statement (.buildSet2 dest level a1 a2) := fun _ _ => by
  simp [encode, commandLength, legal, halfBytes]
theorem buildSet3 (dest : Half) (level : Byte) (a1 a2 a3 : Half) : Statement (.buildSet3 dest level a1 a2 a3) :=
  fun _ _ => by simp [encode, commandLength, legal, halfBytes]
theorem finalize : Statement .finalize := fun _ _ => by simp [encode, commandLength, legal]
theorem process (frame : List Byte) : Statement (.process frame) := fun _ h => by
  simp only [wellFormed, Bool.and_eq_true, beq_iff_eq] at h
  simp [encode, commandLength, legal, h.1]
  omega
theorem dispatch : Statement .dispatch := fun _ _ => by simp [encode, commandLength, legal]
theorem queryRxSrc : Statement .queryRxSrc := fun _ _ => by simp [encode, commandLength, legal]
theorem queryRxDst : Statement .queryRxDst := fun _ _ => by simp [encode, commandLength, legal]
theorem queryRxType : Statement .queryRxType := fun _ _ => by simp [encode, commandLength, legal]
theorem queryRxRst : Statement .queryRxRst := fun _ _ => by simp [encode, commandLength, legal]
theorem queryRxMsg : Statement .queryRxMsg := fun _ _ => by simp [encode, commandLength, legal]
theorem queryRxValidation : Statement .queryRxValidation := fun _ _ => by simp [encode, commandLength, legal]
theorem wireBeacon (h : WireHeader) (uptime : Word) (chk : Half) (pad : List Byte) :
    Statement (.wireBeacon h uptime chk pad) := fun _ w => by
  simp only [wellFormed, beq_iff_eq] at w
  simp [encode, commandLength, legal, ← w, beaconFrame, frameBytes, headerBytes, beaconPayload, wordBytes, halfBytes,
    MsgType.frameLen, headerLen, MsgType.payloadLen, checksumLen]
  omega
theorem wireSetIndividual (h : WireHeader) (level : Byte) (a1 chk : Half) (pad : List Byte) :
    Statement (.wireSetIndividual h level a1 chk pad) := fun _ w => by
  simp only [wellFormed, beq_iff_eq] at w
  simp [encode, commandLength, legal, ← w, set1Frame, frameBytes, headerBytes, set1Payload, halfBytes,
    MsgType.frameLen, headerLen, MsgType.payloadLen, checksumLen]
  omega
theorem wireSetTwoIndividuals (h : WireHeader) (level : Byte) (a1 a2 chk : Half) (pad : List Byte) :
    Statement (.wireSetTwoIndividuals h level a1 a2 chk pad) := fun _ w => by
  simp only [wellFormed, beq_iff_eq] at w
  simp [encode, commandLength, legal, ← w, set2Frame, frameBytes, headerBytes, set2Payload, halfBytes,
    MsgType.frameLen, headerLen, MsgType.payloadLen, checksumLen]
  omega
theorem wireSetThreeIndividuals (h : WireHeader) (level : Byte) (a1 a2 a3 chk : Half) (pad : List Byte) :
    Statement (.wireSetThreeIndividuals h level a1 a2 a3 chk pad) := fun _ w => by
  simp only [wellFormed, beq_iff_eq] at w
  simp [encode, commandLength, legal, ← w, set3Frame, frameBytes, headerBytes, set3Payload, halfBytes,
    MsgType.frameLen, headerLen, MsgType.payloadLen, checksumLen]
  omega
theorem wireDeviceStatusReserved (h : WireHeader) (rest : List Byte) :
    Statement (.wireDeviceStatusReserved h rest) := fun _ w => by
  simp only [wellFormed, beq_iff_eq] at w
  simp [encode, commandLength, legal, ← w, deviceStatusFrame, headerBytes, headerLen]
  omega
theorem illegalCommand (frame : List Byte) : Statement (.illegalCommand frame) := fun _ w => by
  simp only [wellFormed, bne_iff_ne, ne_eq] at w
  simp [encode, legal, w]

end Sys2Proof.Laws.EncodedLength
end

