-- ==== Sys2Proof/Laws/State.lean ====
section
/-! SUPPORT. One lemma per field per named update of State: what the field holds after it. -/

namespace Sys2Proof.Machine

variable (s : State)

/-! ### beginCommand -/

@[simp] theorem State.beginCommand_cfg : (s.beginCommand).cfg = s.cfg := rfl
@[simp] theorem State.beginCommand_ownAddr : (s.beginCommand).ownAddr = s.ownAddr := rfl
@[simp] theorem State.beginCommand_initDone : (s.beginCommand).initDone = s.initDone := rfl
@[simp] theorem State.beginCommand_cbEn : (s.beginCommand).cbEn = s.cbEn := rfl
@[simp] theorem State.beginCommand_ownMsg : (s.beginCommand).ownMsg = s.ownMsg := rfl
@[simp] theorem State.beginCommand_ownRst : (s.beginCommand).ownRst = s.ownRst := rfl
@[simp] theorem State.beginCommand_txbuf : (s.beginCommand).txbuf = s.txbuf := rfl
@[simp] theorem State.beginCommand_txLen : (s.beginCommand).txLen = s.txLen := rfl
@[simp] theorem State.beginCommand_peerCount : (s.beginCommand).peerCount = s.peerCount := rfl
@[simp] theorem State.beginCommand_peerAddr : (s.beginCommand).peerAddr = s.peerAddr := rfl
@[simp] theorem State.beginCommand_peerRst : (s.beginCommand).peerRst = s.peerRst := rfl
@[simp] theorem State.beginCommand_peerMsg : (s.beginCommand).peerMsg = s.peerMsg := rfl
@[simp] theorem State.beginCommand_rxSrc : (s.beginCommand).rxSrc = s.rxSrc := rfl
@[simp] theorem State.beginCommand_rxDst : (s.beginCommand).rxDst = s.rxDst := rfl
@[simp] theorem State.beginCommand_rxRst : (s.beginCommand).rxRst = s.rxRst := rfl
@[simp] theorem State.beginCommand_rxMsg : (s.beginCommand).rxMsg = s.rxMsg := rfl
@[simp] theorem State.beginCommand_rxType : (s.beginCommand).rxType = s.rxType := rfl
@[simp] theorem State.beginCommand_rxValidation : (s.beginCommand).rxValidation = s.rxValidation := rfl
@[simp] theorem State.beginCommand_rxPayload : (s.beginCommand).rxPayload = s.rxPayload := rfl
@[simp] theorem State.beginCommand_rxValid : (s.beginCommand).rxValid = s.rxValid := rfl
@[simp] theorem State.beginCommand_storage : (s.beginCommand).storage = s.storage := rfl
@[simp] theorem State.beginCommand_committed : (s.beginCommand).committed = s.committed := rfl
@[simp] theorem State.beginCommand_agentAnswers : (s.beginCommand).agentAnswers = s.agentAnswers := rfl
@[simp] theorem State.beginCommand_input : (s.beginCommand).input = s.input := rfl
@[simp] theorem State.beginCommand_rsp : (s.beginCommand).rsp = none := rfl
@[simp] theorem State.beginCommand_evt : (s.beginCommand).evt = none := rfl
@[simp] theorem State.beginCommand_sto : (s.beginCommand).sto = [] := rfl
@[simp] theorem State.beginCommand_draws : (s.beginCommand).draws = s.draws := rfl

/-! ### respond -/

@[simp] theorem State.respond_cfg (st : Status) (bs : List Byte) : (s.respond st bs).cfg = s.cfg := rfl
@[simp] theorem State.respond_ownAddr (st : Status) (bs : List Byte) : (s.respond st bs).ownAddr = s.ownAddr := rfl
@[simp] theorem State.respond_initDone (st : Status) (bs : List Byte) : (s.respond st bs).initDone = s.initDone := rfl
@[simp] theorem State.respond_cbEn (st : Status) (bs : List Byte) : (s.respond st bs).cbEn = s.cbEn := rfl
@[simp] theorem State.respond_ownMsg (st : Status) (bs : List Byte) : (s.respond st bs).ownMsg = s.ownMsg := rfl
@[simp] theorem State.respond_ownRst (st : Status) (bs : List Byte) : (s.respond st bs).ownRst = s.ownRst := rfl
@[simp] theorem State.respond_txbuf (st : Status) (bs : List Byte) : (s.respond st bs).txbuf = s.txbuf := rfl
@[simp] theorem State.respond_txLen (st : Status) (bs : List Byte) : (s.respond st bs).txLen = s.txLen := rfl
@[simp] theorem State.respond_peerCount (st : Status) (bs : List Byte) : (s.respond st bs).peerCount = s.peerCount := rfl
@[simp] theorem State.respond_peerAddr (st : Status) (bs : List Byte) : (s.respond st bs).peerAddr = s.peerAddr := rfl
@[simp] theorem State.respond_peerRst (st : Status) (bs : List Byte) : (s.respond st bs).peerRst = s.peerRst := rfl
@[simp] theorem State.respond_peerMsg (st : Status) (bs : List Byte) : (s.respond st bs).peerMsg = s.peerMsg := rfl
@[simp] theorem State.respond_rxSrc (st : Status) (bs : List Byte) : (s.respond st bs).rxSrc = s.rxSrc := rfl
@[simp] theorem State.respond_rxDst (st : Status) (bs : List Byte) : (s.respond st bs).rxDst = s.rxDst := rfl
@[simp] theorem State.respond_rxRst (st : Status) (bs : List Byte) : (s.respond st bs).rxRst = s.rxRst := rfl
@[simp] theorem State.respond_rxMsg (st : Status) (bs : List Byte) : (s.respond st bs).rxMsg = s.rxMsg := rfl
@[simp] theorem State.respond_rxType (st : Status) (bs : List Byte) : (s.respond st bs).rxType = s.rxType := rfl
@[simp] theorem State.respond_rxValidation (st : Status) (bs : List Byte) : (s.respond st bs).rxValidation = s.rxValidation := rfl
@[simp] theorem State.respond_rxPayload (st : Status) (bs : List Byte) : (s.respond st bs).rxPayload = s.rxPayload := rfl
@[simp] theorem State.respond_rxValid (st : Status) (bs : List Byte) : (s.respond st bs).rxValid = s.rxValid := rfl
@[simp] theorem State.respond_storage (st : Status) (bs : List Byte) : (s.respond st bs).storage = s.storage := rfl
@[simp] theorem State.respond_committed (st : Status) (bs : List Byte) : (s.respond st bs).committed = s.committed := rfl
@[simp] theorem State.respond_agentAnswers (st : Status) (bs : List Byte) : (s.respond st bs).agentAnswers = s.agentAnswers := rfl
@[simp] theorem State.respond_input (st : Status) (bs : List Byte) : (s.respond st bs).input = s.input := rfl
@[simp] theorem State.respond_rsp (st : Status) (bs : List Byte) : (s.respond st bs).rsp = some { status := st, results := bs } := rfl
@[simp] theorem State.respond_evt (st : Status) (bs : List Byte) : (s.respond st bs).evt = s.evt := rfl
@[simp] theorem State.respond_sto (st : Status) (bs : List Byte) : (s.respond st bs).sto = s.sto := rfl
@[simp] theorem State.respond_draws (st : Status) (bs : List Byte) : (s.respond st bs).draws = s.draws := rfl

/-! ### emit -/

@[simp] theorem State.emit_cfg (e : Event) : (s.emit e).cfg = s.cfg := rfl
@[simp] theorem State.emit_ownAddr (e : Event) : (s.emit e).ownAddr = s.ownAddr := rfl
@[simp] theorem State.emit_initDone (e : Event) : (s.emit e).initDone = s.initDone := rfl
@[simp] theorem State.emit_cbEn (e : Event) : (s.emit e).cbEn = s.cbEn := rfl
@[simp] theorem State.emit_ownMsg (e : Event) : (s.emit e).ownMsg = s.ownMsg := rfl
@[simp] theorem State.emit_ownRst (e : Event) : (s.emit e).ownRst = s.ownRst := rfl
@[simp] theorem State.emit_txbuf (e : Event) : (s.emit e).txbuf = s.txbuf := rfl
@[simp] theorem State.emit_txLen (e : Event) : (s.emit e).txLen = s.txLen := rfl
@[simp] theorem State.emit_peerCount (e : Event) : (s.emit e).peerCount = s.peerCount := rfl
@[simp] theorem State.emit_peerAddr (e : Event) : (s.emit e).peerAddr = s.peerAddr := rfl
@[simp] theorem State.emit_peerRst (e : Event) : (s.emit e).peerRst = s.peerRst := rfl
@[simp] theorem State.emit_peerMsg (e : Event) : (s.emit e).peerMsg = s.peerMsg := rfl
@[simp] theorem State.emit_rxSrc (e : Event) : (s.emit e).rxSrc = s.rxSrc := rfl
@[simp] theorem State.emit_rxDst (e : Event) : (s.emit e).rxDst = s.rxDst := rfl
@[simp] theorem State.emit_rxRst (e : Event) : (s.emit e).rxRst = s.rxRst := rfl
@[simp] theorem State.emit_rxMsg (e : Event) : (s.emit e).rxMsg = s.rxMsg := rfl
@[simp] theorem State.emit_rxType (e : Event) : (s.emit e).rxType = s.rxType := rfl
@[simp] theorem State.emit_rxValidation (e : Event) : (s.emit e).rxValidation = s.rxValidation := rfl
@[simp] theorem State.emit_rxPayload (e : Event) : (s.emit e).rxPayload = s.rxPayload := rfl
@[simp] theorem State.emit_rxValid (e : Event) : (s.emit e).rxValid = s.rxValid := rfl
@[simp] theorem State.emit_storage (e : Event) : (s.emit e).storage = s.storage := rfl
@[simp] theorem State.emit_committed (e : Event) : (s.emit e).committed = s.committed := rfl
@[simp] theorem State.emit_agentAnswers (e : Event) : (s.emit e).agentAnswers = s.agentAnswers := rfl
@[simp] theorem State.emit_input (e : Event) : (s.emit e).input = s.input := rfl
@[simp] theorem State.emit_rsp (e : Event) : (s.emit e).rsp = s.rsp := rfl
@[simp] theorem State.emit_evt (e : Event) : (s.emit e).evt = some e := rfl
@[simp] theorem State.emit_sto (e : Event) : (s.emit e).sto = s.sto := rfl
@[simp] theorem State.emit_draws (e : Event) : (s.emit e).draws = s.draws := rfl

/-! ### clearRx -/

@[simp] theorem State.clearRx_cfg : (s.clearRx).cfg = s.cfg := rfl
@[simp] theorem State.clearRx_ownAddr : (s.clearRx).ownAddr = s.ownAddr := rfl
@[simp] theorem State.clearRx_initDone : (s.clearRx).initDone = s.initDone := rfl
@[simp] theorem State.clearRx_cbEn : (s.clearRx).cbEn = s.cbEn := rfl
@[simp] theorem State.clearRx_ownMsg : (s.clearRx).ownMsg = s.ownMsg := rfl
@[simp] theorem State.clearRx_ownRst : (s.clearRx).ownRst = s.ownRst := rfl
@[simp] theorem State.clearRx_txbuf : (s.clearRx).txbuf = s.txbuf := rfl
@[simp] theorem State.clearRx_txLen : (s.clearRx).txLen = s.txLen := rfl
@[simp] theorem State.clearRx_peerCount : (s.clearRx).peerCount = s.peerCount := rfl
@[simp] theorem State.clearRx_peerAddr : (s.clearRx).peerAddr = s.peerAddr := rfl
@[simp] theorem State.clearRx_peerRst : (s.clearRx).peerRst = s.peerRst := rfl
@[simp] theorem State.clearRx_peerMsg : (s.clearRx).peerMsg = s.peerMsg := rfl
@[simp] theorem State.clearRx_rxSrc : (s.clearRx).rxSrc = s.rxSrc := rfl
@[simp] theorem State.clearRx_rxDst : (s.clearRx).rxDst = s.rxDst := rfl
@[simp] theorem State.clearRx_rxRst : (s.clearRx).rxRst = s.rxRst := rfl
@[simp] theorem State.clearRx_rxMsg : (s.clearRx).rxMsg = s.rxMsg := rfl
@[simp] theorem State.clearRx_rxType : (s.clearRx).rxType = s.rxType := rfl
@[simp] theorem State.clearRx_rxValidation : (s.clearRx).rxValidation = .none := rfl
@[simp] theorem State.clearRx_rxPayload : (s.clearRx).rxPayload = List.replicate 8 0x00 := rfl
@[simp] theorem State.clearRx_rxValid : (s.clearRx).rxValid = false := rfl
@[simp] theorem State.clearRx_storage : (s.clearRx).storage = s.storage := rfl
@[simp] theorem State.clearRx_committed : (s.clearRx).committed = s.committed := rfl
@[simp] theorem State.clearRx_agentAnswers : (s.clearRx).agentAnswers = s.agentAnswers := rfl
@[simp] theorem State.clearRx_input : (s.clearRx).input = s.input := rfl
@[simp] theorem State.clearRx_rsp : (s.clearRx).rsp = s.rsp := rfl
@[simp] theorem State.clearRx_evt : (s.clearRx).evt = s.evt := rfl
@[simp] theorem State.clearRx_sto : (s.clearRx).sto = s.sto := rfl
@[simp] theorem State.clearRx_draws : (s.clearRx).draws = s.draws := rfl

/-! ### zeroHeader -/

@[simp] theorem State.zeroHeader_cfg : (s.zeroHeader).cfg = s.cfg := rfl
@[simp] theorem State.zeroHeader_ownAddr : (s.zeroHeader).ownAddr = s.ownAddr := rfl
@[simp] theorem State.zeroHeader_initDone : (s.zeroHeader).initDone = s.initDone := rfl
@[simp] theorem State.zeroHeader_cbEn : (s.zeroHeader).cbEn = s.cbEn := rfl
@[simp] theorem State.zeroHeader_ownMsg : (s.zeroHeader).ownMsg = s.ownMsg := rfl
@[simp] theorem State.zeroHeader_ownRst : (s.zeroHeader).ownRst = s.ownRst := rfl
@[simp] theorem State.zeroHeader_txbuf : (s.zeroHeader).txbuf = s.txbuf := rfl
@[simp] theorem State.zeroHeader_txLen : (s.zeroHeader).txLen = s.txLen := rfl
@[simp] theorem State.zeroHeader_peerCount : (s.zeroHeader).peerCount = s.peerCount := rfl
@[simp] theorem State.zeroHeader_peerAddr : (s.zeroHeader).peerAddr = s.peerAddr := rfl
@[simp] theorem State.zeroHeader_peerRst : (s.zeroHeader).peerRst = s.peerRst := rfl
@[simp] theorem State.zeroHeader_peerMsg : (s.zeroHeader).peerMsg = s.peerMsg := rfl
@[simp] theorem State.zeroHeader_rxSrc : (s.zeroHeader).rxSrc = 0 := rfl
@[simp] theorem State.zeroHeader_rxDst : (s.zeroHeader).rxDst = 0 := rfl
@[simp] theorem State.zeroHeader_rxRst : (s.zeroHeader).rxRst = 0 := rfl
@[simp] theorem State.zeroHeader_rxMsg : (s.zeroHeader).rxMsg = 0 := rfl
@[simp] theorem State.zeroHeader_rxType : (s.zeroHeader).rxType = 0 := rfl
@[simp] theorem State.zeroHeader_rxValidation : (s.zeroHeader).rxValidation = s.rxValidation := rfl
@[simp] theorem State.zeroHeader_rxPayload : (s.zeroHeader).rxPayload = s.rxPayload := rfl
@[simp] theorem State.zeroHeader_rxValid : (s.zeroHeader).rxValid = s.rxValid := rfl
@[simp] theorem State.zeroHeader_storage : (s.zeroHeader).storage = s.storage := rfl
@[simp] theorem State.zeroHeader_committed : (s.zeroHeader).committed = s.committed := rfl
@[simp] theorem State.zeroHeader_agentAnswers : (s.zeroHeader).agentAnswers = s.agentAnswers := rfl
@[simp] theorem State.zeroHeader_input : (s.zeroHeader).input = s.input := rfl
@[simp] theorem State.zeroHeader_rsp : (s.zeroHeader).rsp = s.rsp := rfl
@[simp] theorem State.zeroHeader_evt : (s.zeroHeader).evt = s.evt := rfl
@[simp] theorem State.zeroHeader_sto : (s.zeroHeader).sto = s.sto := rfl
@[simp] theorem State.zeroHeader_draws : (s.zeroHeader).draws = s.draws := rfl

/-! ### loadHeader -/

@[simp] theorem State.loadHeader_cfg (f : List Byte) : (s.loadHeader f).cfg = s.cfg := rfl
@[simp] theorem State.loadHeader_ownAddr (f : List Byte) : (s.loadHeader f).ownAddr = s.ownAddr := rfl
@[simp] theorem State.loadHeader_initDone (f : List Byte) : (s.loadHeader f).initDone = s.initDone := rfl
@[simp] theorem State.loadHeader_cbEn (f : List Byte) : (s.loadHeader f).cbEn = s.cbEn := rfl
@[simp] theorem State.loadHeader_ownMsg (f : List Byte) : (s.loadHeader f).ownMsg = s.ownMsg := rfl
@[simp] theorem State.loadHeader_ownRst (f : List Byte) : (s.loadHeader f).ownRst = s.ownRst := rfl
@[simp] theorem State.loadHeader_txbuf (f : List Byte) : (s.loadHeader f).txbuf = s.txbuf := rfl
@[simp] theorem State.loadHeader_txLen (f : List Byte) : (s.loadHeader f).txLen = s.txLen := rfl
@[simp] theorem State.loadHeader_peerCount (f : List Byte) : (s.loadHeader f).peerCount = s.peerCount := rfl
@[simp] theorem State.loadHeader_peerAddr (f : List Byte) : (s.loadHeader f).peerAddr = s.peerAddr := rfl
@[simp] theorem State.loadHeader_peerRst (f : List Byte) : (s.loadHeader f).peerRst = s.peerRst := rfl
@[simp] theorem State.loadHeader_peerMsg (f : List Byte) : (s.loadHeader f).peerMsg = s.peerMsg := rfl
@[simp] theorem State.loadHeader_rxSrc (f : List Byte) : (s.loadHeader f).rxSrc = frameSrc f := rfl
@[simp] theorem State.loadHeader_rxDst (f : List Byte) : (s.loadHeader f).rxDst = frameDst f := rfl
@[simp] theorem State.loadHeader_rxRst (f : List Byte) : (s.loadHeader f).rxRst = frameRst f := rfl
@[simp] theorem State.loadHeader_rxMsg (f : List Byte) : (s.loadHeader f).rxMsg = frameMsg f := rfl
@[simp] theorem State.loadHeader_rxType (f : List Byte) : (s.loadHeader f).rxType = frameType f := rfl
@[simp] theorem State.loadHeader_rxValidation (f : List Byte) : (s.loadHeader f).rxValidation = s.rxValidation := rfl
@[simp] theorem State.loadHeader_rxPayload (f : List Byte) : (s.loadHeader f).rxPayload = s.rxPayload := rfl
@[simp] theorem State.loadHeader_rxValid (f : List Byte) : (s.loadHeader f).rxValid = s.rxValid := rfl
@[simp] theorem State.loadHeader_storage (f : List Byte) : (s.loadHeader f).storage = s.storage := rfl
@[simp] theorem State.loadHeader_committed (f : List Byte) : (s.loadHeader f).committed = s.committed := rfl
@[simp] theorem State.loadHeader_agentAnswers (f : List Byte) : (s.loadHeader f).agentAnswers = s.agentAnswers := rfl
@[simp] theorem State.loadHeader_input (f : List Byte) : (s.loadHeader f).input = s.input := rfl
@[simp] theorem State.loadHeader_rsp (f : List Byte) : (s.loadHeader f).rsp = s.rsp := rfl
@[simp] theorem State.loadHeader_evt (f : List Byte) : (s.loadHeader f).evt = s.evt := rfl
@[simp] theorem State.loadHeader_sto (f : List Byte) : (s.loadHeader f).sto = s.sto := rfl
@[simp] theorem State.loadHeader_draws (f : List Byte) : (s.loadHeader f).draws = s.draws := rfl

/-! ### recordValidation -/

@[simp] theorem State.recordValidation_cfg (v : Status) : (s.recordValidation v).cfg = s.cfg := rfl
@[simp] theorem State.recordValidation_ownAddr (v : Status) : (s.recordValidation v).ownAddr = s.ownAddr := rfl
@[simp] theorem State.recordValidation_initDone (v : Status) : (s.recordValidation v).initDone = s.initDone := rfl
@[simp] theorem State.recordValidation_cbEn (v : Status) : (s.recordValidation v).cbEn = s.cbEn := rfl
@[simp] theorem State.recordValidation_ownMsg (v : Status) : (s.recordValidation v).ownMsg = s.ownMsg := rfl
@[simp] theorem State.recordValidation_ownRst (v : Status) : (s.recordValidation v).ownRst = s.ownRst := rfl
@[simp] theorem State.recordValidation_txbuf (v : Status) : (s.recordValidation v).txbuf = s.txbuf := rfl
@[simp] theorem State.recordValidation_txLen (v : Status) : (s.recordValidation v).txLen = s.txLen := rfl
@[simp] theorem State.recordValidation_peerCount (v : Status) : (s.recordValidation v).peerCount = s.peerCount := rfl
@[simp] theorem State.recordValidation_peerAddr (v : Status) : (s.recordValidation v).peerAddr = s.peerAddr := rfl
@[simp] theorem State.recordValidation_peerRst (v : Status) : (s.recordValidation v).peerRst = s.peerRst := rfl
@[simp] theorem State.recordValidation_peerMsg (v : Status) : (s.recordValidation v).peerMsg = s.peerMsg := rfl
@[simp] theorem State.recordValidation_rxSrc (v : Status) : (s.recordValidation v).rxSrc = s.rxSrc := rfl
@[simp] theorem State.recordValidation_rxDst (v : Status) : (s.recordValidation v).rxDst = s.rxDst := rfl
@[simp] theorem State.recordValidation_rxRst (v : Status) : (s.recordValidation v).rxRst = s.rxRst := rfl
@[simp] theorem State.recordValidation_rxMsg (v : Status) : (s.recordValidation v).rxMsg = s.rxMsg := rfl
@[simp] theorem State.recordValidation_rxType (v : Status) : (s.recordValidation v).rxType = s.rxType := rfl
@[simp] theorem State.recordValidation_rxValidation (v : Status) : (s.recordValidation v).rxValidation = v := rfl
@[simp] theorem State.recordValidation_rxPayload (v : Status) : (s.recordValidation v).rxPayload = s.rxPayload := rfl
@[simp] theorem State.recordValidation_rxValid (v : Status) : (s.recordValidation v).rxValid = s.rxValid := rfl
@[simp] theorem State.recordValidation_storage (v : Status) : (s.recordValidation v).storage = s.storage := rfl
@[simp] theorem State.recordValidation_committed (v : Status) : (s.recordValidation v).committed = s.committed := rfl
@[simp] theorem State.recordValidation_agentAnswers (v : Status) : (s.recordValidation v).agentAnswers = s.agentAnswers := rfl
@[simp] theorem State.recordValidation_input (v : Status) : (s.recordValidation v).input = s.input := rfl
@[simp] theorem State.recordValidation_rsp (v : Status) : (s.recordValidation v).rsp = s.rsp := rfl
@[simp] theorem State.recordValidation_evt (v : Status) : (s.recordValidation v).evt = s.evt := rfl
@[simp] theorem State.recordValidation_sto (v : Status) : (s.recordValidation v).sto = s.sto := rfl
@[simp] theorem State.recordValidation_draws (v : Status) : (s.recordValidation v).draws = s.draws := rfl

/-! ### stagePayload -/

@[simp] theorem State.stagePayload_cfg (f : List Byte) (n : Nat) : (s.stagePayload f n).cfg = s.cfg := rfl
@[simp] theorem State.stagePayload_ownAddr (f : List Byte) (n : Nat) : (s.stagePayload f n).ownAddr = s.ownAddr := rfl
@[simp] theorem State.stagePayload_initDone (f : List Byte) (n : Nat) : (s.stagePayload f n).initDone = s.initDone := rfl
@[simp] theorem State.stagePayload_cbEn (f : List Byte) (n : Nat) : (s.stagePayload f n).cbEn = s.cbEn := rfl
@[simp] theorem State.stagePayload_ownMsg (f : List Byte) (n : Nat) : (s.stagePayload f n).ownMsg = s.ownMsg := rfl
@[simp] theorem State.stagePayload_ownRst (f : List Byte) (n : Nat) : (s.stagePayload f n).ownRst = s.ownRst := rfl
@[simp] theorem State.stagePayload_txbuf (f : List Byte) (n : Nat) : (s.stagePayload f n).txbuf = s.txbuf := rfl
@[simp] theorem State.stagePayload_txLen (f : List Byte) (n : Nat) : (s.stagePayload f n).txLen = s.txLen := rfl
@[simp] theorem State.stagePayload_peerCount (f : List Byte) (n : Nat) : (s.stagePayload f n).peerCount = s.peerCount := rfl
@[simp] theorem State.stagePayload_peerAddr (f : List Byte) (n : Nat) : (s.stagePayload f n).peerAddr = s.peerAddr := rfl
@[simp] theorem State.stagePayload_peerRst (f : List Byte) (n : Nat) : (s.stagePayload f n).peerRst = s.peerRst := rfl
@[simp] theorem State.stagePayload_peerMsg (f : List Byte) (n : Nat) : (s.stagePayload f n).peerMsg = s.peerMsg := rfl
@[simp] theorem State.stagePayload_rxSrc (f : List Byte) (n : Nat) : (s.stagePayload f n).rxSrc = s.rxSrc := rfl
@[simp] theorem State.stagePayload_rxDst (f : List Byte) (n : Nat) : (s.stagePayload f n).rxDst = s.rxDst := rfl
@[simp] theorem State.stagePayload_rxRst (f : List Byte) (n : Nat) : (s.stagePayload f n).rxRst = s.rxRst := rfl
@[simp] theorem State.stagePayload_rxMsg (f : List Byte) (n : Nat) : (s.stagePayload f n).rxMsg = s.rxMsg := rfl
@[simp] theorem State.stagePayload_rxType (f : List Byte) (n : Nat) : (s.stagePayload f n).rxType = s.rxType := rfl
@[simp] theorem State.stagePayload_rxValidation (f : List Byte) (n : Nat) : (s.stagePayload f n).rxValidation = s.rxValidation := rfl
@[simp] theorem State.stagePayload_rxPayload (f : List Byte) (n : Nat) : (s.stagePayload f n).rxPayload = setBytes s.rxPayload 0 (framePayload f n) := rfl
@[simp] theorem State.stagePayload_rxValid (f : List Byte) (n : Nat) : (s.stagePayload f n).rxValid = s.rxValid := rfl
@[simp] theorem State.stagePayload_storage (f : List Byte) (n : Nat) : (s.stagePayload f n).storage = s.storage := rfl
@[simp] theorem State.stagePayload_committed (f : List Byte) (n : Nat) : (s.stagePayload f n).committed = s.committed := rfl
@[simp] theorem State.stagePayload_agentAnswers (f : List Byte) (n : Nat) : (s.stagePayload f n).agentAnswers = s.agentAnswers := rfl
@[simp] theorem State.stagePayload_input (f : List Byte) (n : Nat) : (s.stagePayload f n).input = s.input := rfl
@[simp] theorem State.stagePayload_rsp (f : List Byte) (n : Nat) : (s.stagePayload f n).rsp = s.rsp := rfl
@[simp] theorem State.stagePayload_evt (f : List Byte) (n : Nat) : (s.stagePayload f n).evt = s.evt := rfl
@[simp] theorem State.stagePayload_sto (f : List Byte) (n : Nat) : (s.stagePayload f n).sto = s.sto := rfl
@[simp] theorem State.stagePayload_draws (f : List Byte) (n : Nat) : (s.stagePayload f n).draws = s.draws := rfl

/-! ### markValid -/

@[simp] theorem State.markValid_cfg : (s.markValid).cfg = s.cfg := rfl
@[simp] theorem State.markValid_ownAddr : (s.markValid).ownAddr = s.ownAddr := rfl
@[simp] theorem State.markValid_initDone : (s.markValid).initDone = s.initDone := rfl
@[simp] theorem State.markValid_cbEn : (s.markValid).cbEn = s.cbEn := rfl
@[simp] theorem State.markValid_ownMsg : (s.markValid).ownMsg = s.ownMsg := rfl
@[simp] theorem State.markValid_ownRst : (s.markValid).ownRst = s.ownRst := rfl
@[simp] theorem State.markValid_txbuf : (s.markValid).txbuf = s.txbuf := rfl
@[simp] theorem State.markValid_txLen : (s.markValid).txLen = s.txLen := rfl
@[simp] theorem State.markValid_peerCount : (s.markValid).peerCount = s.peerCount := rfl
@[simp] theorem State.markValid_peerAddr : (s.markValid).peerAddr = s.peerAddr := rfl
@[simp] theorem State.markValid_peerRst : (s.markValid).peerRst = s.peerRst := rfl
@[simp] theorem State.markValid_peerMsg : (s.markValid).peerMsg = s.peerMsg := rfl
@[simp] theorem State.markValid_rxSrc : (s.markValid).rxSrc = s.rxSrc := rfl
@[simp] theorem State.markValid_rxDst : (s.markValid).rxDst = s.rxDst := rfl
@[simp] theorem State.markValid_rxRst : (s.markValid).rxRst = s.rxRst := rfl
@[simp] theorem State.markValid_rxMsg : (s.markValid).rxMsg = s.rxMsg := rfl
@[simp] theorem State.markValid_rxType : (s.markValid).rxType = s.rxType := rfl
@[simp] theorem State.markValid_rxValidation : (s.markValid).rxValidation = s.rxValidation := rfl
@[simp] theorem State.markValid_rxPayload : (s.markValid).rxPayload = s.rxPayload := rfl
@[simp] theorem State.markValid_rxValid : (s.markValid).rxValid = true := rfl
@[simp] theorem State.markValid_storage : (s.markValid).storage = s.storage := rfl
@[simp] theorem State.markValid_committed : (s.markValid).committed = s.committed := rfl
@[simp] theorem State.markValid_agentAnswers : (s.markValid).agentAnswers = s.agentAnswers := rfl
@[simp] theorem State.markValid_input : (s.markValid).input = s.input := rfl
@[simp] theorem State.markValid_rsp : (s.markValid).rsp = s.rsp := rfl
@[simp] theorem State.markValid_evt : (s.markValid).evt = s.evt := rfl
@[simp] theorem State.markValid_sto : (s.markValid).sto = s.sto := rfl
@[simp] theorem State.markValid_draws : (s.markValid).draws = s.draws := rfl

/-! ### consume -/

@[simp] theorem State.consume_cfg : (s.consume).cfg = s.cfg := rfl
@[simp] theorem State.consume_ownAddr : (s.consume).ownAddr = s.ownAddr := rfl
@[simp] theorem State.consume_initDone : (s.consume).initDone = s.initDone := rfl
@[simp] theorem State.consume_cbEn : (s.consume).cbEn = s.cbEn := rfl
@[simp] theorem State.consume_ownMsg : (s.consume).ownMsg = s.ownMsg := rfl
@[simp] theorem State.consume_ownRst : (s.consume).ownRst = s.ownRst := rfl
@[simp] theorem State.consume_txbuf : (s.consume).txbuf = s.txbuf := rfl
@[simp] theorem State.consume_txLen : (s.consume).txLen = s.txLen := rfl
@[simp] theorem State.consume_peerCount : (s.consume).peerCount = s.peerCount := rfl
@[simp] theorem State.consume_peerAddr : (s.consume).peerAddr = s.peerAddr := rfl
@[simp] theorem State.consume_peerRst : (s.consume).peerRst = s.peerRst := rfl
@[simp] theorem State.consume_peerMsg : (s.consume).peerMsg = s.peerMsg := rfl
@[simp] theorem State.consume_rxSrc : (s.consume).rxSrc = s.rxSrc := rfl
@[simp] theorem State.consume_rxDst : (s.consume).rxDst = s.rxDst := rfl
@[simp] theorem State.consume_rxRst : (s.consume).rxRst = s.rxRst := rfl
@[simp] theorem State.consume_rxMsg : (s.consume).rxMsg = s.rxMsg := rfl
@[simp] theorem State.consume_rxType : (s.consume).rxType = s.rxType := rfl
@[simp] theorem State.consume_rxValidation : (s.consume).rxValidation = s.rxValidation := rfl
@[simp] theorem State.consume_rxPayload : (s.consume).rxPayload = s.rxPayload := rfl
@[simp] theorem State.consume_rxValid : (s.consume).rxValid = false := rfl
@[simp] theorem State.consume_storage : (s.consume).storage = s.storage := rfl
@[simp] theorem State.consume_committed : (s.consume).committed = s.committed := rfl
@[simp] theorem State.consume_agentAnswers : (s.consume).agentAnswers = s.agentAnswers := rfl
@[simp] theorem State.consume_input : (s.consume).input = s.input := rfl
@[simp] theorem State.consume_rsp : (s.consume).rsp = s.rsp := rfl
@[simp] theorem State.consume_evt : (s.consume).evt = s.evt := rfl
@[simp] theorem State.consume_sto : (s.consume).sto = s.sto := rfl
@[simp] theorem State.consume_draws : (s.consume).draws = s.draws := rfl

/-! ### completeInit -/

@[simp] theorem State.completeInit_cfg (r : Half) : (s.completeInit r).cfg = s.cfg := rfl
@[simp] theorem State.completeInit_ownAddr (r : Half) : (s.completeInit r).ownAddr = s.ownAddr := rfl
@[simp] theorem State.completeInit_initDone (r : Half) : (s.completeInit r).initDone = true := rfl
@[simp] theorem State.completeInit_cbEn (r : Half) : (s.completeInit r).cbEn = s.cbEn := rfl
@[simp] theorem State.completeInit_ownMsg (r : Half) : (s.completeInit r).ownMsg = 0 := rfl
@[simp] theorem State.completeInit_ownRst (r : Half) : (s.completeInit r).ownRst = r := rfl
@[simp] theorem State.completeInit_txbuf (r : Half) : (s.completeInit r).txbuf = s.txbuf := rfl
@[simp] theorem State.completeInit_txLen (r : Half) : (s.completeInit r).txLen = s.txLen := rfl
@[simp] theorem State.completeInit_peerCount (r : Half) : (s.completeInit r).peerCount = s.peerCount := rfl
@[simp] theorem State.completeInit_peerAddr (r : Half) : (s.completeInit r).peerAddr = s.peerAddr := rfl
@[simp] theorem State.completeInit_peerRst (r : Half) : (s.completeInit r).peerRst = s.peerRst := rfl
@[simp] theorem State.completeInit_peerMsg (r : Half) : (s.completeInit r).peerMsg = s.peerMsg := rfl
@[simp] theorem State.completeInit_rxSrc (r : Half) : (s.completeInit r).rxSrc = s.rxSrc := rfl
@[simp] theorem State.completeInit_rxDst (r : Half) : (s.completeInit r).rxDst = s.rxDst := rfl
@[simp] theorem State.completeInit_rxRst (r : Half) : (s.completeInit r).rxRst = s.rxRst := rfl
@[simp] theorem State.completeInit_rxMsg (r : Half) : (s.completeInit r).rxMsg = s.rxMsg := rfl
@[simp] theorem State.completeInit_rxType (r : Half) : (s.completeInit r).rxType = s.rxType := rfl
@[simp] theorem State.completeInit_rxValidation (r : Half) : (s.completeInit r).rxValidation = s.rxValidation := rfl
@[simp] theorem State.completeInit_rxPayload (r : Half) : (s.completeInit r).rxPayload = s.rxPayload := rfl
@[simp] theorem State.completeInit_rxValid (r : Half) : (s.completeInit r).rxValid = s.rxValid := rfl
@[simp] theorem State.completeInit_storage (r : Half) : (s.completeInit r).storage = s.storage := rfl
@[simp] theorem State.completeInit_committed (r : Half) : (s.completeInit r).committed = s.committed := rfl
@[simp] theorem State.completeInit_agentAnswers (r : Half) : (s.completeInit r).agentAnswers = s.agentAnswers := rfl
@[simp] theorem State.completeInit_input (r : Half) : (s.completeInit r).input = s.input := rfl
@[simp] theorem State.completeInit_rsp (r : Half) : (s.completeInit r).rsp = s.rsp := rfl
@[simp] theorem State.completeInit_evt (r : Half) : (s.completeInit r).evt = s.evt := rfl
@[simp] theorem State.completeInit_sto (r : Half) : (s.completeInit r).sto = s.sto := rfl
@[simp] theorem State.completeInit_draws (r : Half) : (s.completeInit r).draws = s.draws := rfl

/-! ### setAgent -/

@[simp] theorem State.setAgent_cfg (b : Bool) : (s.setAgent b).cfg = s.cfg := rfl
@[simp] theorem State.setAgent_ownAddr (b : Bool) : (s.setAgent b).ownAddr = s.ownAddr := rfl
@[simp] theorem State.setAgent_initDone (b : Bool) : (s.setAgent b).initDone = s.initDone := rfl
@[simp] theorem State.setAgent_cbEn (b : Bool) : (s.setAgent b).cbEn = s.cbEn := rfl
@[simp] theorem State.setAgent_ownMsg (b : Bool) : (s.setAgent b).ownMsg = s.ownMsg := rfl
@[simp] theorem State.setAgent_ownRst (b : Bool) : (s.setAgent b).ownRst = s.ownRst := rfl
@[simp] theorem State.setAgent_txbuf (b : Bool) : (s.setAgent b).txbuf = s.txbuf := rfl
@[simp] theorem State.setAgent_txLen (b : Bool) : (s.setAgent b).txLen = s.txLen := rfl
@[simp] theorem State.setAgent_peerCount (b : Bool) : (s.setAgent b).peerCount = s.peerCount := rfl
@[simp] theorem State.setAgent_peerAddr (b : Bool) : (s.setAgent b).peerAddr = s.peerAddr := rfl
@[simp] theorem State.setAgent_peerRst (b : Bool) : (s.setAgent b).peerRst = s.peerRst := rfl
@[simp] theorem State.setAgent_peerMsg (b : Bool) : (s.setAgent b).peerMsg = s.peerMsg := rfl
@[simp] theorem State.setAgent_rxSrc (b : Bool) : (s.setAgent b).rxSrc = s.rxSrc := rfl
@[simp] theorem State.setAgent_rxDst (b : Bool) : (s.setAgent b).rxDst = s.rxDst := rfl
@[simp] theorem State.setAgent_rxRst (b : Bool) : (s.setAgent b).rxRst = s.rxRst := rfl
@[simp] theorem State.setAgent_rxMsg (b : Bool) : (s.setAgent b).rxMsg = s.rxMsg := rfl
@[simp] theorem State.setAgent_rxType (b : Bool) : (s.setAgent b).rxType = s.rxType := rfl
@[simp] theorem State.setAgent_rxValidation (b : Bool) : (s.setAgent b).rxValidation = s.rxValidation := rfl
@[simp] theorem State.setAgent_rxPayload (b : Bool) : (s.setAgent b).rxPayload = s.rxPayload := rfl
@[simp] theorem State.setAgent_rxValid (b : Bool) : (s.setAgent b).rxValid = s.rxValid := rfl
@[simp] theorem State.setAgent_storage (b : Bool) : (s.setAgent b).storage = s.storage := rfl
@[simp] theorem State.setAgent_committed (b : Bool) : (s.setAgent b).committed = s.committed := rfl
@[simp] theorem State.setAgent_agentAnswers (b : Bool) : (s.setAgent b).agentAnswers = b := rfl
@[simp] theorem State.setAgent_input (b : Bool) : (s.setAgent b).input = s.input := rfl
@[simp] theorem State.setAgent_rsp (b : Bool) : (s.setAgent b).rsp = s.rsp := rfl
@[simp] theorem State.setAgent_evt (b : Bool) : (s.setAgent b).evt = s.evt := rfl
@[simp] theorem State.setAgent_sto (b : Bool) : (s.setAgent b).sto = s.sto := rfl
@[simp] theorem State.setAgent_draws (b : Bool) : (s.setAgent b).draws = s.draws := rfl

/-! ### takeInput -/

@[simp] theorem State.takeInput_cfg : (s.takeInput).cfg = s.cfg := rfl
@[simp] theorem State.takeInput_ownAddr : (s.takeInput).ownAddr = s.ownAddr := rfl
@[simp] theorem State.takeInput_initDone : (s.takeInput).initDone = s.initDone := rfl
@[simp] theorem State.takeInput_cbEn : (s.takeInput).cbEn = s.cbEn := rfl
@[simp] theorem State.takeInput_ownMsg : (s.takeInput).ownMsg = s.ownMsg := rfl
@[simp] theorem State.takeInput_ownRst : (s.takeInput).ownRst = s.ownRst := rfl
@[simp] theorem State.takeInput_txbuf : (s.takeInput).txbuf = s.txbuf := rfl
@[simp] theorem State.takeInput_txLen : (s.takeInput).txLen = s.txLen := rfl
@[simp] theorem State.takeInput_peerCount : (s.takeInput).peerCount = s.peerCount := rfl
@[simp] theorem State.takeInput_peerAddr : (s.takeInput).peerAddr = s.peerAddr := rfl
@[simp] theorem State.takeInput_peerRst : (s.takeInput).peerRst = s.peerRst := rfl
@[simp] theorem State.takeInput_peerMsg : (s.takeInput).peerMsg = s.peerMsg := rfl
@[simp] theorem State.takeInput_rxSrc : (s.takeInput).rxSrc = s.rxSrc := rfl
@[simp] theorem State.takeInput_rxDst : (s.takeInput).rxDst = s.rxDst := rfl
@[simp] theorem State.takeInput_rxRst : (s.takeInput).rxRst = s.rxRst := rfl
@[simp] theorem State.takeInput_rxMsg : (s.takeInput).rxMsg = s.rxMsg := rfl
@[simp] theorem State.takeInput_rxType : (s.takeInput).rxType = s.rxType := rfl
@[simp] theorem State.takeInput_rxValidation : (s.takeInput).rxValidation = s.rxValidation := rfl
@[simp] theorem State.takeInput_rxPayload : (s.takeInput).rxPayload = s.rxPayload := rfl
@[simp] theorem State.takeInput_rxValid : (s.takeInput).rxValid = s.rxValid := rfl
@[simp] theorem State.takeInput_storage : (s.takeInput).storage = s.storage := rfl
@[simp] theorem State.takeInput_committed : (s.takeInput).committed = s.committed := rfl
@[simp] theorem State.takeInput_agentAnswers : (s.takeInput).agentAnswers = s.agentAnswers := rfl
@[simp] theorem State.takeInput_input : (s.takeInput).input = s.input.tail := rfl
@[simp] theorem State.takeInput_rsp : (s.takeInput).rsp = s.rsp := rfl
@[simp] theorem State.takeInput_evt : (s.takeInput).evt = s.evt := rfl
@[simp] theorem State.takeInput_sto : (s.takeInput).sto = s.sto := rfl
@[simp] theorem State.takeInput_draws : (s.takeInput).draws = s.draws := rfl

/-! ### pushCommand -/

@[simp] theorem State.pushCommand_cfg (f : List Byte) : (s.pushCommand f).cfg = s.cfg := rfl
@[simp] theorem State.pushCommand_ownAddr (f : List Byte) : (s.pushCommand f).ownAddr = s.ownAddr := rfl
@[simp] theorem State.pushCommand_initDone (f : List Byte) : (s.pushCommand f).initDone = s.initDone := rfl
@[simp] theorem State.pushCommand_cbEn (f : List Byte) : (s.pushCommand f).cbEn = s.cbEn := rfl
@[simp] theorem State.pushCommand_ownMsg (f : List Byte) : (s.pushCommand f).ownMsg = s.ownMsg := rfl
@[simp] theorem State.pushCommand_ownRst (f : List Byte) : (s.pushCommand f).ownRst = s.ownRst := rfl
@[simp] theorem State.pushCommand_txbuf (f : List Byte) : (s.pushCommand f).txbuf = s.txbuf := rfl
@[simp] theorem State.pushCommand_txLen (f : List Byte) : (s.pushCommand f).txLen = s.txLen := rfl
@[simp] theorem State.pushCommand_peerCount (f : List Byte) : (s.pushCommand f).peerCount = s.peerCount := rfl
@[simp] theorem State.pushCommand_peerAddr (f : List Byte) : (s.pushCommand f).peerAddr = s.peerAddr := rfl
@[simp] theorem State.pushCommand_peerRst (f : List Byte) : (s.pushCommand f).peerRst = s.peerRst := rfl
@[simp] theorem State.pushCommand_peerMsg (f : List Byte) : (s.pushCommand f).peerMsg = s.peerMsg := rfl
@[simp] theorem State.pushCommand_rxSrc (f : List Byte) : (s.pushCommand f).rxSrc = s.rxSrc := rfl
@[simp] theorem State.pushCommand_rxDst (f : List Byte) : (s.pushCommand f).rxDst = s.rxDst := rfl
@[simp] theorem State.pushCommand_rxRst (f : List Byte) : (s.pushCommand f).rxRst = s.rxRst := rfl
@[simp] theorem State.pushCommand_rxMsg (f : List Byte) : (s.pushCommand f).rxMsg = s.rxMsg := rfl
@[simp] theorem State.pushCommand_rxType (f : List Byte) : (s.pushCommand f).rxType = s.rxType := rfl
@[simp] theorem State.pushCommand_rxValidation (f : List Byte) : (s.pushCommand f).rxValidation = s.rxValidation := rfl
@[simp] theorem State.pushCommand_rxPayload (f : List Byte) : (s.pushCommand f).rxPayload = s.rxPayload := rfl
@[simp] theorem State.pushCommand_rxValid (f : List Byte) : (s.pushCommand f).rxValid = s.rxValid := rfl
@[simp] theorem State.pushCommand_storage (f : List Byte) : (s.pushCommand f).storage = s.storage := rfl
@[simp] theorem State.pushCommand_committed (f : List Byte) : (s.pushCommand f).committed = s.committed := rfl
@[simp] theorem State.pushCommand_agentAnswers (f : List Byte) : (s.pushCommand f).agentAnswers = s.agentAnswers := rfl
@[simp] theorem State.pushCommand_input (f : List Byte) : (s.pushCommand f).input = .command f :: s.input := rfl
@[simp] theorem State.pushCommand_rsp (f : List Byte) : (s.pushCommand f).rsp = s.rsp := rfl
@[simp] theorem State.pushCommand_evt (f : List Byte) : (s.pushCommand f).evt = s.evt := rfl
@[simp] theorem State.pushCommand_sto (f : List Byte) : (s.pushCommand f).sto = s.sto := rfl
@[simp] theorem State.pushCommand_draws (f : List Byte) : (s.pushCommand f).draws = s.draws := rfl

/-! ### loadPeerTable -/

@[simp] theorem State.loadPeerTable_cfg : (s.loadPeerTable).cfg = s.cfg := rfl
@[simp] theorem State.loadPeerTable_ownAddr : (s.loadPeerTable).ownAddr = s.ownAddr := rfl
@[simp] theorem State.loadPeerTable_initDone : (s.loadPeerTable).initDone = s.initDone := rfl
@[simp] theorem State.loadPeerTable_cbEn : (s.loadPeerTable).cbEn = s.cbEn := rfl
@[simp] theorem State.loadPeerTable_ownMsg : (s.loadPeerTable).ownMsg = s.ownMsg := rfl
@[simp] theorem State.loadPeerTable_ownRst : (s.loadPeerTable).ownRst = s.ownRst := rfl
@[simp] theorem State.loadPeerTable_txbuf : (s.loadPeerTable).txbuf = s.txbuf := rfl
@[simp] theorem State.loadPeerTable_txLen : (s.loadPeerTable).txLen = s.txLen := rfl
@[simp] theorem State.loadPeerTable_peerCount : (s.loadPeerTable).peerCount = BitVec.ofNat 8 (loadedCount s) := rfl
@[simp] theorem State.loadPeerTable_peerAddr : (s.loadPeerTable).peerAddr = (List.range s.cfg.peerCapacity).map fun i =>
      if i < loadedCount s then Memory.getHalf s.storage (peerAddrOff s.cfg i) else 0 := rfl
@[simp] theorem State.loadPeerTable_peerRst : (s.loadPeerTable).peerRst = (List.range s.cfg.peerCapacity).map fun i =>
      if i < loadedCount s then Memory.getHalf s.storage (peerRstOff s.cfg i) else 0 := rfl
@[simp] theorem State.loadPeerTable_peerMsg : (s.loadPeerTable).peerMsg = List.replicate s.cfg.peerCapacity 0 := rfl
@[simp] theorem State.loadPeerTable_rxSrc : (s.loadPeerTable).rxSrc = s.rxSrc := rfl
@[simp] theorem State.loadPeerTable_rxDst : (s.loadPeerTable).rxDst = s.rxDst := rfl
@[simp] theorem State.loadPeerTable_rxRst : (s.loadPeerTable).rxRst = s.rxRst := rfl
@[simp] theorem State.loadPeerTable_rxMsg : (s.loadPeerTable).rxMsg = s.rxMsg := rfl
@[simp] theorem State.loadPeerTable_rxType : (s.loadPeerTable).rxType = s.rxType := rfl
@[simp] theorem State.loadPeerTable_rxValidation : (s.loadPeerTable).rxValidation = s.rxValidation := rfl
@[simp] theorem State.loadPeerTable_rxPayload : (s.loadPeerTable).rxPayload = s.rxPayload := rfl
@[simp] theorem State.loadPeerTable_rxValid : (s.loadPeerTable).rxValid = s.rxValid := rfl
@[simp] theorem State.loadPeerTable_storage : (s.loadPeerTable).storage = s.storage := rfl
@[simp] theorem State.loadPeerTable_committed : (s.loadPeerTable).committed = s.committed := rfl
@[simp] theorem State.loadPeerTable_agentAnswers : (s.loadPeerTable).agentAnswers = s.agentAnswers := rfl
@[simp] theorem State.loadPeerTable_input : (s.loadPeerTable).input = s.input := rfl
@[simp] theorem State.loadPeerTable_rsp : (s.loadPeerTable).rsp = s.rsp := rfl
@[simp] theorem State.loadPeerTable_evt : (s.loadPeerTable).evt = s.evt := rfl
@[simp] theorem State.loadPeerTable_sto : (s.loadPeerTable).sto = s.sto := rfl
@[simp] theorem State.loadPeerTable_draws : (s.loadPeerTable).draws = s.draws := rfl

/-! ### restart -/

@[simp] theorem State.restart_cfg (m : Memory) : (s.restart m).cfg = s.cfg := rfl
@[simp] theorem State.restart_ownAddr (m : Memory) : (s.restart m).ownAddr = s.cfg.ownAddr := rfl
@[simp] theorem State.restart_initDone (m : Memory) : (s.restart m).initDone = false := rfl
@[simp] theorem State.restart_cbEn (m : Memory) : (s.restart m).cbEn = { beacon := false, set1 := false, set2 := false, set3 := false } := rfl
@[simp] theorem State.restart_ownMsg (m : Memory) : (s.restart m).ownMsg = 0 := rfl
@[simp] theorem State.restart_ownRst (m : Memory) : (s.restart m).ownRst = 0 := rfl
@[simp] theorem State.restart_txbuf (m : Memory) : (s.restart m).txbuf = resetTxbuf s.cfg := rfl
@[simp] theorem State.restart_txLen (m : Memory) : (s.restart m).txLen = 0 := rfl
@[simp] theorem State.restart_peerCount (m : Memory) : (s.restart m).peerCount = 0 := rfl
@[simp] theorem State.restart_peerAddr (m : Memory) : (s.restart m).peerAddr = List.replicate s.cfg.peerCapacity 0 := rfl
@[simp] theorem State.restart_peerRst (m : Memory) : (s.restart m).peerRst = List.replicate s.cfg.peerCapacity 0 := rfl
@[simp] theorem State.restart_peerMsg (m : Memory) : (s.restart m).peerMsg = List.replicate s.cfg.peerCapacity 0 := rfl
@[simp] theorem State.restart_rxSrc (m : Memory) : (s.restart m).rxSrc = 0 := rfl
@[simp] theorem State.restart_rxDst (m : Memory) : (s.restart m).rxDst = 0 := rfl
@[simp] theorem State.restart_rxRst (m : Memory) : (s.restart m).rxRst = 0 := rfl
@[simp] theorem State.restart_rxMsg (m : Memory) : (s.restart m).rxMsg = 0 := rfl
@[simp] theorem State.restart_rxType (m : Memory) : (s.restart m).rxType = 0 := rfl
@[simp] theorem State.restart_rxValidation (m : Memory) : (s.restart m).rxValidation = .none := rfl
@[simp] theorem State.restart_rxPayload (m : Memory) : (s.restart m).rxPayload = List.replicate 8 0x00 := rfl
@[simp] theorem State.restart_rxValid (m : Memory) : (s.restart m).rxValid = false := rfl
@[simp] theorem State.restart_storage (m : Memory) : (s.restart m).storage = m := rfl
@[simp] theorem State.restart_committed (m : Memory) : (s.restart m).committed = m := rfl
@[simp] theorem State.restart_agentAnswers (m : Memory) : (s.restart m).agentAnswers = s.agentAnswers := rfl
@[simp] theorem State.restart_input (m : Memory) : (s.restart m).input = s.input := rfl
@[simp] theorem State.restart_rsp (m : Memory) : (s.restart m).rsp = none := rfl
@[simp] theorem State.restart_evt (m : Memory) : (s.restart m).evt = none := rfl
@[simp] theorem State.restart_sto (m : Memory) : (s.restart m).sto = [] := rfl
@[simp] theorem State.restart_draws (m : Memory) : (s.restart m).draws = s.draws + 1 := rfl

end Sys2Proof.Machine
end

