-- ==== Sys2Proof/Tests/Slice0.lean ====
section
/-! SUPPORT. Tests: words decoded by hand from the encodings of spec 30_encoding R80 and R93, R94; ill-formed commands; single steps against the
vectors of spec 95_test_vectors; and a state that meets the hypotheses of each statement. -/

namespace Sys2Proof.Tests

open Sys2Proof Sys2Proof.Machine

set_option Elab.async false

/-! ### Decoding: one frame per row of the opcode table -/

/-- Nine padding bytes of a 25-byte wire buffer that holds a 16-byte frame. -/
def nine : List Byte := [0, 0, 0, 0, 0, 0, 0, 0, 0]

/-- Frame F8 of spec 95_test_vectors (R101). -/
def frameF8 : List Byte :=
  [0xAA, 0x10, 0x01, 0xFF, 0xFF, 0x00, 0x01, 0x00, 0x01, 0x01, 0x49, 0x96, 0x02, 0xD2, 0x64, 0xDB] ++ nine

/-- Frame FB: F8 with magic 0x55. -/
def frameFB : List Byte :=
  [0x55, 0x10, 0x01, 0xFF, 0xFF, 0x00, 0x01, 0x00, 0x01, 0x01, 0x49, 0x96, 0x02, 0xD2, 0x64, 0xDB] ++ nine

/-- Frame FD: a Beacon for 0x3003. -/
def frameFD : List Byte :=
  [0xAA, 0x10, 0x01, 0x30, 0x03, 0x00, 0x01, 0x00, 0x01, 0x01, 0x49, 0x96, 0x02, 0xD2, 0xFE, 0x5C] ++ nine

/-- Frame FS1: Set-Individual to 0x2002, message 3. -/
def frameFS1 : List Byte :=
  [0xAA, 0x10, 0x01, 0x20, 0x02, 0x00, 0x01, 0x00, 0x03, 0x10, 0x7F, 0x20, 0x02, 0x96, 0xAE, 0x00] ++ nine

theorem test_decode_init : decode 25 [0x01] = .init := by decide
theorem test_decode_registerCb : decode 25 [0x02, 0x10, 0x01] = .registerCb 0x10 0x01 := by decide
theorem test_decode_crc16 :
    decode 25 [0x08, 0x00, 0x02, 0x00, 0x01, 0x00, 0x01, 0xAA, 0xBB] = .crc16 2 1 1 [0xAA, 0xBB] := by decide
theorem test_decode_buildBeacon : decode 25 [0x10, 0x49, 0x96, 0x02, 0xD2] = .buildBeacon 0x499602D2 := by decide
theorem test_decode_buildSet1 :
    decode 25 [0x11, 0xFF, 0xFF, 0x40, 0x20, 0x02] = .buildSet1 0xFFFF 0x40 0x2002 := by decide
theorem test_decode_buildSet2 :
    decode 25 [0x12, 0xFF, 0xFF, 0x80, 0x20, 0x02, 0x30, 0x03] = .buildSet2 0xFFFF 0x80 0x2002 0x3003 := by decide
theorem test_decode_buildSet3 :
    decode 25 [0x13, 0xFF, 0xFF, 0xFF, 0x10, 0x01, 0x20, 0x02, 0x30, 0x03] =
      .buildSet3 0xFFFF 0xFF 0x1001 0x2002 0x3003 := by decide
theorem test_decode_finalize : decode 25 [0x18] = .finalize := by decide
theorem test_decode_process : decode 25 (0x20 :: frameFB) = .process frameFB := by decide
theorem test_decode_dispatch : decode 25 [0x28] = .dispatch := by decide
theorem test_decode_queryRxSrc : decode 25 [0x30] = .queryRxSrc := by decide
theorem test_decode_queryRxDst : decode 25 [0x31] = .queryRxDst := by decide
theorem test_decode_queryRxType : decode 25 [0x32] = .queryRxType := by decide
theorem test_decode_queryRxRst : decode 25 [0x33] = .queryRxRst := by decide
theorem test_decode_queryRxMsg : decode 25 [0x34] = .queryRxMsg := by decide
theorem test_decode_queryRxValidation : decode 25 [0x35] = .queryRxValidation := by decide
theorem test_decode_wireBeacon :
    decode 25 (0x20 :: frameF8) =
      .wireBeacon { src := 0x1001, dst := 0xFFFF, rst := 1, msg := 1 } 0x499602D2 0x64DB nine := by decide
theorem test_decode_wireSetIndividual :
    decode 25 (0x20 :: frameFS1) =
      .wireSetIndividual { src := 0x1001, dst := 0x2002, rst := 1, msg := 3 } 0x7F 0x2002 0x96AE (0 :: nine) := by decide
theorem test_decode_wireSetTwoIndividuals :
    decode 25 (0x20 :: ([0xAA, 0x10, 0x01, 0x20, 0x02, 0x00, 0x01, 0x00, 0x02, 0x11, 0x80, 0x20, 0x02, 0x30, 0x03, 0x74, 0xF1]
        ++ [0, 0, 0, 0, 0, 0, 0, 0])) =
      .wireSetTwoIndividuals { src := 0x1001, dst := 0x2002, rst := 1, msg := 2 } 0x80 0x2002 0x3003 0x74F1
        [0, 0, 0, 0, 0, 0, 0, 0] := by decide
theorem test_decode_wireSetThreeIndividuals :
    decode 25 (0x20 :: [0xAA, 0x10, 0x01, 0xFF, 0xFF, 0x00, 0x02, 0x90, 0x01, 0x12, 0x01, 0x20, 0x02, 0x20, 0x02, 0xFF, 0xFF,
        0x4A, 0xA9, 0, 0, 0, 0, 0, 0]) =
      .wireSetThreeIndividuals { src := 0x1001, dst := 0xFFFF, rst := 2, msg := 0x9001 } 0x01 0x2002 0x2002 0xFFFF 0x4AA9
        [0, 0, 0, 0, 0, 0] := by decide
theorem test_decode_wireDeviceStatusReserved :
    decode 25 (0x20 :: ([0xAA, 0x10, 0x01, 0xFF, 0xFF, 0x00, 0x01, 0x00, 0x02, 0x02, 0, 0, 0, 0, 0, 0] ++ nine)) =
      .wireDeviceStatusReserved { src := 0x1001, dst := 0xFFFF, rst := 1, msg := 2 } ([0, 0, 0, 0, 0, 0] ++ nine) := by
  decide
theorem test_decode_unknown_opcode : decode 25 [0x36] = .illegalCommand [0x36] := by decide
theorem test_decode_extra_byte : decode 25 [0x28, 0x00] = .illegalCommand [0x28, 0x00] := by decide
theorem test_decode_table_word : decodeTableWord 8 0x20 = some (.process (List.replicate 25 0)) := by decide

/-! ### Ill-formed commands, one per check of `wellFormed` -/

theorem test_illformed_crc16 : wellFormed 25 (.crc16 2 0 1 [0xAA]) = false := by decide
theorem test_illformed_process_short : wellFormed 25 (.process [0x55]) = false := by decide
theorem test_illformed_process_typed : wellFormed 25 (.process frameF8) = false := by decide
theorem test_illformed_wireBeacon : wellFormed 25 (.wireBeacon { src := 1, dst := 2, rst := 3, msg := 4 } 0 0 []) = false := by
  decide
theorem test_illformed_wireSetIndividual :
    wellFormed 25 (.wireSetIndividual { src := 1, dst := 2, rst := 3, msg := 4 } 0 0 0 nine) = false := by decide
theorem test_illformed_wireSetTwoIndividuals :
    wellFormed 25 (.wireSetTwoIndividuals { src := 1, dst := 2, rst := 3, msg := 4 } 0 0 0 0 nine) = false := by decide
theorem test_illformed_wireSetThreeIndividuals :
    wellFormed 25 (.wireSetThreeIndividuals { src := 1, dst := 2, rst := 3, msg := 4 } 0 0 0 0 0 nine) = false := by decide
theorem test_illformed_wireDeviceStatusReserved :
    wellFormed 25 (.wireDeviceStatusReserved { src := 1, dst := 2, rst := 3, msg := 4 } nine) = false := by decide
theorem test_illformed_illegalCommand : wellFormed 25 (.illegalCommand [0x01]) = false := by decide

/-! ### Single steps -/

/-- The state of an outcome; the reset state where there is none. -/
def after (o : Host.Outcome State Fault Refusal) : State :=
  match o with
  | .next s => s
  | .fault _ => State.reset
  | .refused _ => State.reset

/-- Whether an outcome is a next state. -/
def completes (o : Host.Outcome State Fault Refusal) : Bool :=
  match o with
  | .next _ => true
  | .fault _ => false
  | .refused _ => false

theorem eq_next_after {o : Host.Outcome State Fault Refusal} (h : completes o = true) : o = .next (after o) := by
  cases o <;> simp_all [completes, after]

/-- The receiver R of spec 95_test_vectors, after power-on with all-zero storage. -/
def receiverReset : State := State.powerOn { Config.standard with ownAddr := 0x2002 } []

/-- R after INIT, every callback registered. -/
def receiver : State :=
  { receiverReset with
    initDone := true, ownRst := 1, storage := [(10, 0x01)], committed := [(10, 0x01)]
    cbEn := { beacon := true, set1 := true, set2 := true, set3 := true } }

/-- R with 0x1001 stored as (1, 1). -/
def receiverKnows : State :=
  { receiver with
    peerCount := 1, peerAddr := [0x1001, 0], peerRst := [1, 0], peerMsg := [1, 0]
    storage := [(0, 0x10), (1, 0x01), (5, 0x01), (8, 0x01), (10, 0x01)]
    committed := [(0, 0x10), (1, 0x01), (5, 0x01), (8, 0x01), (10, 0x01)] }

/-- R with a full table: 0x1001 as (2, 1), 0x0000 as (0, 0). -/
def receiverFull : State :=
  { receiver with
    peerCount := 2, peerAddr := [0x1001, 0], peerRst := [2, 0], peerMsg := [1, 0]
    storage := [(0, 0x10), (1, 0x01), (5, 0x02), (8, 0x02), (10, 0x01)]
    committed := [(0, 0x10), (1, 0x01), (5, 0x02), (8, 0x02), (10, 0x01)] }

/-- R with F8 accepted and not dispatched. -/
def receiverPending : State := after (exec (.process frameF8) receiver)

/-- The sender A of spec 95_test_vectors after INIT, with the Beacon of F8 built. -/
def sender : State :=
  { State.reset with
    initDone := true, ownRst := 1, storage := [(10, 0x01)], committed := [(10, 0x01)]
    txbuf := [0xAA, 0x10, 0x01, 0xFF, 0xFF, 0, 0, 0, 0, 0x01, 0x49, 0x96, 0x02, 0xD2, 0, 0] ++ nine, txLen := 16 }

/-- The response bytes after a command. -/
def rspBytes (s : State) : List Byte := (s.rsp.map Response.bytes).getD []

/-- L2-I-1. -/
theorem test_init_trace : (after (exec .init State.reset)).sto =
    [.read 8, .read 9, .read 10, .write 9 0x00, .write 10 0x01, .commit] := by decide +kernel
/-- L2-I-2: erased storage. -/
theorem test_init_erased :
    (after (exec .init (State.powerOn Config.standard (imageMemory Config.standard (List.replicate 11 0xFF))))).ownRst = 0 := by
  decide +kernel
/-- L2-C-3. -/
theorem test_registerCb : (after (exec (.registerCb 0x11 0x7E) State.reset)).cbEn =
    { beacon := false, set1 := false, set2 := true, set3 := false } := by decide
/-- L2-C-4. -/
theorem test_registerCb_reserved : rspBytes (after (exec (.registerCb 0x02 0x01) State.reset)) = [0x08] := by decide
/-- L2-CRC-12, over F8. -/
theorem test_crc16 : rspBytes (after (exec (.crc16 25 1 13 frameF8) State.reset)) = [0x01, 0xB3, 0xC3] := by
  decide +kernel
/-- L2-CRC-16: no 16-bit wrap of start + length. -/
theorem test_crc16_range : rspBytes (after (exec (.crc16 1 0xFFFF 2 [0x00]) State.reset)) = [0x0C] := by decide
/-- L2-B-2. -/
theorem test_buildBeacon : ((after (exec (.buildBeacon 0) State.reset)).txbuf.drop 3).take 13 =
    [0xFF, 0xFF, 0, 0, 0, 0, 0x01, 0, 0, 0, 0, 0, 0] := by decide
/-- L2-B-3. -/
theorem test_buildSet1 : ((after (exec (.buildSet1 0xFFFF 0x40 0x2002) State.reset)).txbuf.drop 3).take 12 =
    [0xFF, 0xFF, 0, 0, 0, 0, 0x10, 0x40, 0x20, 0x02, 0, 0] := by decide
/-- L2-B-4. -/
theorem test_buildSet2 : ((after (exec (.buildSet2 0x2002 0x80 0x2002 0x3003) State.reset)).txbuf.drop 3).take 14 =
    [0x20, 0x02, 0, 0, 0, 0, 0x11, 0x80, 0x20, 0x02, 0x30, 0x03, 0, 0] := by decide
/-- L2-B-5. -/
theorem test_buildSet3 : (after (exec (.buildSet3 0xFFFF 0xFF 0x1001 0x2002 0x3003) State.reset)).txLen = 19 := by decide
/-- L2-F-2. -/
theorem test_finalize : rspBytes (after (exec .finalize sender)) = 0x01 :: 0x10 :: frameF8 := by decide +kernel
/-- L2-F-6: both counters wrap. -/
theorem test_finalize_wrap : (rspBytes (after (exec .finalize
      { sender with
        ownRst := 0xFFFF, ownMsg := 0xFFFF
        txbuf := [0xAA, 0x10, 0x01, 0xFF, 0xFF, 0, 0, 0, 0, 0x01, 0, 0, 0, 0, 0, 0] ++ nine }))).take 18 =
    [0x01, 0x10, 0xAA, 0x10, 0x01, 0xFF, 0xFF, 0x00, 0x00, 0x00, 0x01, 0x01, 0, 0, 0, 0, 0xF9, 0x27] := by
  decide +kernel
/-- T2. -/
theorem test_process_bad_magic : rspBytes (after (exec (.process frameFB) receiver)) = [0x06] := by decide +kernel
/-- T3. -/
theorem test_process_destination : rspBytes (after (exec (.process frameFD) receiver)) = [0x07] := by decide +kernel
/-- T4. -/
theorem test_wireBeacon_new_peer :
    (after (exec (.wireBeacon { src := 0x1001, dst := 0xFFFF, rst := 1, msg := 1 } 0x499602D2 0x64DB nine) receiver)).sto =
      [.write 0 0x10, .write 1 0x01, .write 4 0x00, .write 5 0x01, .write 8 0x01, .commit] := by decide +kernel
/-- T5. -/
theorem test_wireBeacon_replay :
    rspBytes (after (exec (.wireBeacon { src := 0x1001, dst := 0xFFFF, rst := 1, msg := 1 } 0x499602D2 0x64DB nine)
      receiverKnows)) = [0x05] := by decide +kernel
/-- T8. -/
theorem test_wireSetIndividual :
    (after (exec (.wireSetIndividual { src := 0x1001, dst := 0x2002, rst := 1, msg := 3 } 0x7F 0x2002 0x96AE (0 :: nine))
      receiverKnows)).rxPayload = [0x7F, 0x20, 0x02, 0, 0, 0, 0, 0] := by decide +kernel
/-- T13: a corrupted checksum leaves the advanced mark. -/
theorem test_wireSetTwoIndividuals_corrupt :
    (after (exec (.wireSetTwoIndividuals { src := 0x1001, dst := 0xFFFF, rst := 2, msg := 0x9000 } 0x80 0x2002 0x3003 0xB388
      [0, 0, 0, 0, 0, 0, 0, 0]) receiverFull)).peerMsg = [0x9000, 0] := by decide +kernel
/-- T15. -/
theorem test_wireSetThreeIndividuals :
    (after (exec (.wireSetThreeIndividuals { src := 0x1001, dst := 0xFFFF, rst := 2, msg := 0x9001 } 0x01 0x2002 0x2002 0xFFFF
      0x4AA9 [0, 0, 0, 0, 0, 0]) receiverFull)).rxValid = true := by decide +kernel
/-- T6: the mark advances although the type is unknown. -/
theorem test_wireDeviceStatusReserved :
    (after (exec (.wireDeviceStatusReserved { src := 0x1001, dst := 0xFFFF, rst := 1, msg := 2 } ([0, 0, 0, 0, 0, 0] ++ nine))
      receiverKnows)).peerMsg = [2, 0] := by decide +kernel
/-- L2-D-1. -/
theorem test_dispatch_beacon : ((after (exec .dispatch receiverPending)).evt.map Event.bytes) =
    some [0x01, 0x49, 0x96, 0x02, 0xD2] := by decide +kernel
/-- L2-D-6: one event though the address is listed twice. -/
theorem test_dispatch_set3 : ((after (exec .dispatch { receiver with
      rxValid := true, rxType := 0x12, rxPayload := [0x01, 0x20, 0x02, 0x20, 0x02, 0xFF, 0xFF, 0] })).evt.map Event.bytes) =
    some [0x12, 0x20, 0x02, 0x01] := by decide +kernel
/-- L2-C-6. -/
theorem test_queryRxSrc : rspBytes (after (exec .queryRxSrc receiverPending)) = [0x01, 0x10, 0x01] := by decide +kernel
theorem test_queryRxDst : rspBytes (after (exec .queryRxDst receiverPending)) = [0x01, 0xFF, 0xFF] := by decide +kernel
theorem test_queryRxType : rspBytes (after (exec .queryRxType receiverPending)) = [0x01, 0x01] := by decide +kernel
theorem test_queryRxRst : rspBytes (after (exec .queryRxRst receiverPending)) = [0x01, 0x00, 0x01] := by decide +kernel
theorem test_queryRxMsg : rspBytes (after (exec .queryRxMsg receiverPending)) = [0x01, 0x00, 0x01] := by decide +kernel
/-- L2-C-7. -/
theorem test_queryRxValidation : rspBytes (after (exec .queryRxValidation receiverPending)) = [0x01, 0x02] := by
  decide +kernel
/-- L2-C-11. -/
theorem test_illegalCommand : rspBytes (after (step (State.reset.pushCommand [0x00]))) = [0x0D] := by decide
/-- The first step after reset with a table word runs that row's command. -/
theorem test_withFetchWord : rspBytes (after (step (State.reset.withFetchWord 8 0x18))) = [0x0A] := by decide

/-! ### States that meet the hypotheses -/

theorem eq_zero_of_all {l : List Half} (h : l.all (· == 0) = true) : ∀ v ∈ l, v = 0 := by simpa using h

/-- Parameters at the bounds of R8 and R54: the highest own address and storage base, one peer, the smallest buffer. -/
def edgeConfig : Config := { ownAddr := 0xFFFE, peerCapacity := 1, storageBase := 65529, wireBufSize := 20 }

/-- The lowest own address, the most peers. -/
def wideConfig : Config := { ownAddr := 0x0001, peerCapacity := 255, storageBase := 64513, wireBufSize := 20 }

theorem inv_reset : State.reset.Inv := by
  constructor
  case peer_unused => refine ⟨?_, ?_, ?_⟩ <;> exact eq_zero_of_all (by decide +kernel)
  case imaged => exact fun h => absurd h (by decide)
  all_goals decide +kernel
theorem inv_receiver : receiver.Inv := by
  constructor
  case peer_unused => refine ⟨?_, ?_, ?_⟩ <;> exact eq_zero_of_all (by decide +kernel)
  case imaged => unfold countImaged entryImaged; decide +kernel
  all_goals decide +kernel
theorem inv_receiverKnows : receiverKnows.Inv := by
  constructor
  case peer_unused => refine ⟨?_, ?_, ?_⟩ <;> exact eq_zero_of_all (by decide +kernel)
  case imaged => unfold countImaged entryImaged; decide +kernel
  all_goals decide +kernel
theorem inv_receiverFull : receiverFull.Inv := by
  constructor
  case peer_unused => refine ⟨?_, ?_, ?_⟩ <;> exact eq_zero_of_all (by decide +kernel)
  case imaged => unfold countImaged entryImaged; decide +kernel
  all_goals decide +kernel
theorem inv_sender : sender.Inv := by
  constructor
  case peer_unused => refine ⟨?_, ?_, ?_⟩ <;> exact eq_zero_of_all (by decide +kernel)
  case imaged => unfold countImaged entryImaged; decide +kernel
  all_goals decide +kernel
/-- One configuration per clause of R232 (a), each at the bound it passes. -/
def illegalConfigs : List Config :=
  [{ Config.standard with ownAddr := 0x0000 }, { Config.standard with ownAddr := 0xFFFF },
   { Config.standard with peerCapacity := 0 }, { Config.standard with peerCapacity := 256 },
   { Config.standard with storageBase := 65526 }, { Config.standard with wireBufSize := 19 }]

theorem inv_illegalConfigs : ∀ c ∈ illegalConfigs, (State.powerOn c []).Inv := by
  intro c hc
  simp only [illegalConfigs, List.mem_cons, List.not_mem_nil, or_false] at hc
  rcases hc with rfl | rfl | rfl | rfl | rfl | rfl
  all_goals
    constructor
    case peer_unused => refine ⟨?_, ?_, ?_⟩ <;> exact eq_zero_of_all (by decide +kernel)
    case imaged => exact fun h => absurd h (by decide)
    all_goals decide +kernel

/-- `o` answers a next state of which `p` holds. -/
def nextWith (o : Host.Outcome State Fault Refusal) (p : State → Bool) : Bool := completes o && p (after o)

theorem exists_next {o : Host.Outcome State Fault Refusal} {p : State → Bool} (h : nextWith o p = true) :
    ∃ t, o = .next t ∧ p t = true := by
  simp only [nextWith, Bool.and_eq_true] at h
  exact ⟨after o, eq_next_after h.1, h.2⟩

/-- A state whose next input is a command frame. -/
def issued (frame : List Byte) (s : State) : State := { s with input := [.command frame] }

/-- A Beacon of 0x3003, which R does not know. -/
def frameNew : List Byte := [0xAA, 0x30, 0x03, 0xFF, 0xFF, 0, 1, 0, 1, 1, 0, 0, 0, 5, 0xC5, 0xD3] ++ nine

/-! ### One witness per statement that has hypotheses -/

theorem witness_DecodeOfEncodeIsTheCommand :
    20 ≤ 20 ∧ wellFormed 20 (.wireSetThreeIndividuals { src := 1, dst := 2, rst := 3, msg := 4 } 5 6 7 8 9 [0]) = true ∧
    wellFormed 20 (.illegalCommand []) = true ∧ wellFormed 20 (.crc16 0 0 0 []) = true := by decide
theorem witness_EncodeOfDecodeIsTheFrame : 20 ≤ 20 := by decide
theorem witness_IllegalCommandsAreAnsweredOnly :
    (issued [0x36] receiver).cfg.legal = true ∧ (issued [0x36] receiver).input = .command (0x36 :: []) :: [] ∧
    decode (issued [0x36] receiver).cfg.wireBufSize [0x36] = .illegalCommand [0x36] := by decide +kernel
theorem witness_StepRunsTheDecodedCommand :
    (issued [0x28] receiverPending).cfg.legal = true ∧
    (issued [0x28] receiverPending).input = .command [0x28] :: [] := by decide +kernel
theorem witness_StepOutcomes_illegal : ∀ c ∈ illegalConfigs, (State.powerOn c []).Inv ∧
    ((State.powerOn c []).cfg.ownAddr = 0x0000 ∨ (State.powerOn c []).cfg.ownAddr = 0xFFFF ∨
      (State.powerOn c []).cfg.peerCapacity < 1 ∨ 255 < (State.powerOn c []).cfg.peerCapacity ∨
      0x10000 < (State.powerOn c []).cfg.storageBase + 4 * (State.powerOn c []).cfg.peerCapacity + 3 ∨
      (State.powerOn c []).cfg.wireBufSize < 20) :=
  fun c hc => ⟨inv_illegalConfigs c hc, by revert c; decide +kernel⟩
theorem witness_StepOutcomes_legal : ∀ c ∈ [edgeConfig, wideConfig],
    c.ownAddr ≠ 0x0000 ∧ c.ownAddr ≠ 0xFFFF ∧ 1 ≤ c.peerCapacity ∧ c.peerCapacity ≤ 255 ∧
    c.storageBase + 4 * c.peerCapacity + 3 ≤ 0x10000 ∧ 20 ≤ c.wireBufSize := by decide
theorem witness_StepOutcomes_answering : receiver.Inv ∧ receiver.cfg.legal = true ∧ receiver.agentAnswers = true :=
  ⟨inv_receiver, by decide +kernel⟩
/-- A silent agent: INIT issues transactions, DISPATCH none. -/
theorem witness_StepOutcomes_silent :
    (∃ s : State, s.Inv ∧ s.agentAnswers = false ∧ s.cfg.legal = true ∧ s.input = .command [0x01] :: [] ∧
      nextWith (step { s with agentAnswers := true }) (fun t => t.sto != []) = true) ∧
    ∃ s : State, s.Inv ∧ s.agentAnswers = false ∧ s.cfg.legal = true ∧ s.input = .command [0x28] :: [] ∧
      nextWith (step { s with agentAnswers := true }) (fun t => t.sto == []) = true :=
  ⟨⟨{ issued [0x01] State.reset with agentAnswers := false }, { inv_reset with }, by decide +kernel⟩,
    ⟨{ issued [0x28] State.reset with agentAnswers := false }, { inv_reset with }, by decide +kernel⟩⟩
theorem witness_BlockWaitsForTheHost : State.reset.cfg.legal = true ∧ State.reset.input = [] := by decide +kernel
theorem witness_EveryCommandAnswersOnce : (∃ t, exec .finalize sender = .next t ∧ t.succeeded = true) ∧
    ∃ t, exec .dispatch receiver = .next t ∧ (!t.succeeded) = true :=
  ⟨exists_next (by decide +kernel), exists_next (by decide +kernel)⟩
theorem witness_CommandsWriteOnlyTheirElements :
    (∃ t, exec .queryRxSrc receiverPending = .next t ∧ (t.evt == none) = true) ∧
    (∃ t, exec .dispatch receiverPending = .next t ∧ (t.evt != none) = true) ∧
    ∃ t, exec (.process frameF8) receiver = .next t ∧ (t.peerCount != receiver.peerCount) = true :=
  ⟨exists_next (by decide +kernel), exists_next (by decide +kernel), exists_next (by decide +kernel)⟩
theorem witness_StepKeepsTheInvariant :
    State.reset.Inv ∧ ∃ t, step State.reset = .next t ∧ (t == State.reset) = true :=
  ⟨inv_reset, exists_next (by decide +kernel)⟩
theorem witness_PowerOnMeetsTheInvariant : edgeConfig.legal = true ∧ wideConfig.legal = true ∧
    Memory.wf [(0, 0x01), (65535, 0xFF)] := by decide
theorem witness_CommitClosesEveryWritingCommand :
    (∃ t, exec (.process frameF8) receiver = .next t ∧ t.sto.contains (.write 8 1) = true) ∧
    ∃ t, exec .dispatch receiver = .next t ∧ (t.sto == []) = true :=
  ⟨exists_next (by decide +kernel), exists_next (by decide +kernel)⟩
theorem witness_StorageOffsetsStayInTheImage :
    0x10000 < ({ State.reset with cfg := { Config.standard with storageBase := 65526 } } : State).cfg.storageBase + 4 * 2 + 3 ∧
    receiver.peerCount.toNat ≤ receiver.cfg.peerCapacity ∧
    ∃ t, exec (.process frameF8) receiver = .next t ∧ t.sto.contains (.write 8 1) = true :=
  ⟨by decide +kernel, by decide +kernel, exists_next (by decide +kernel)⟩
/-- One state and command per clause; the entry written is the first, and the first known one. -/
theorem witness_StoredBytesAndNoOthers :
    (∃ t, exec .init State.reset = .next t ∧ (t.storage != State.reset.storage) = true) ∧
    (∃ t, exec .finalize { sender with ownMsg := 0xFFFF } = .next t ∧ (t.storage != sender.storage) = true) ∧
    (classify (frameSrc frameF8) (frameRst frameF8) (frameMsg frameF8) receiver = .add ∧
      ∃ t, exec (.process frameF8) receiver = .next t ∧ (t.storage != receiver.storage) = true) ∧
    (classify (frameSrc frameF8) (frameRst frameF8) (frameMsg frameF8) { receiverKnows with peerRst := [0, 0] } = .restart 0 ∧
      ∃ t, exec (.process frameF8) { receiverKnows with peerRst := [0, 0] } = .next t ∧ t.rxValid = true) ∧
    ∃ t, exec .queryRxMsg receiver = .next t ∧ (t.storage == receiver.storage) = true :=
  ⟨exists_next (by decide +kernel), exists_next (by decide +kernel),
    ⟨by decide +kernel, exists_next (by decide +kernel)⟩, ⟨by decide +kernel, exists_next (by decide +kernel)⟩,
    exists_next (by decide +kernel)⟩
/-- Everything committed; and one byte written and not committed. -/
theorem witness_PowerCycleRestoresResetState : ∀ s ∈ [receiverFull, { receiverFull with committed := [(0, 0x10)] }],
    ∀ t, t = { s with input := [.powerCycle] } →
    t.cfg.legal = true ∧ t.input = .powerCycle :: [] ∧ Memory.wf t.storage ∧ Memory.wf t.committed := by
  rintro s hs t rfl
  revert s
  decide +kernel
theorem witness_PeerTableSurvivesPowerCycle :
    ∃ s : State, s.Inv ∧ s.cfg.legal = true ∧ s.initDone = true ∧ s.agentAnswers = true ∧ s.peerCount = 2 ∧
      s.input = .powerCycle :: .command [0x01] :: [] :=
  ⟨{ receiverFull with input := [.powerCycle, .command [0x01]] }, { inv_receiverFull with }, by decide +kernel⟩
theorem witness_BehaviourBeforeInit :
    State.reset.initDone = false ∧ State.reset.rxValid = false ∧ State.reset.Inv ∧ State.reset.cfg.legal = true ∧
    State.reset.agentAnswers = true ∧
    ∃ t, exec (.buildBeacon 7) State.reset = .next t ∧ ∃ u, exec .init t = .next u ∧
      ∃ v, exec .finalize u = .next v ∧ v.succeeded = true := by
  refine ⟨by decide, by decide, inv_reset, by decide +kernel, by decide, _, eq_next_after (by decide +kernel), _,
    eq_next_after (by decide +kernel), exists_next (by decide +kernel)⟩
/-- The whole of the data, and the empty range at its end. -/
theorem witness_CrcMatchesBitSerialForm : 0 + 2 ≤ ([1, 2] : List Byte).length ∧ 2 + 0 ≤ ([1, 2] : List Byte).length := by
  decide
theorem witness_CrcLaws : 1 + 2 ≤ ([9, 1, 2] : List Byte).length ∧ 0 + 2 ≤ ([1, 2] : List Byte).length ∧
    (∀ k, k < 2 → byteAt [9, 1, 2] (1 + k) = byteAt [1, 2] (0 + k)) ∧
    ([1, 2] : List Byte).length = ([3, 4] : List Byte).length ∧ 0 < ([1] : List Byte).length ∧ 7 < 8 := by decide
theorem witness_Crc16CommandAnswers : ([0xAA] : List Byte).length ≠ (0 : Half).toNat := by decide
theorem witness_BuildBeaconWritesTheFrame :
    State.reset.txbuf.length = State.reset.cfg.wireBufSize ∧ 20 ≤ State.reset.cfg.wireBufSize := by decide +kernel
theorem witness_BuildSetsWriteTheFrames :
    (State.powerOn edgeConfig []).txbuf.length = (State.powerOn edgeConfig []).cfg.wireBufSize ∧
    20 ≤ (State.powerOn edgeConfig []).cfg.wireBufSize := by decide +kernel
theorem witness_BuildReplacesBuild : isBuild (.buildSet3 1 2 3 4 5) = true ∧ isBuild (.buildBeacon 1) = true ∧
    sender.txbuf.length = sender.cfg.wireBufSize ∧ 20 ≤ sender.cfg.wireBufSize := by decide +kernel
/-- Not initialized; nothing built; no wrap; wrap. -/
theorem witness_FinalizeEmitsTheStampedFrame :
    State.reset.initDone = false ∧ (receiver.initDone = true ∧ receiver.txLen = 0) ∧
    (sender.Inv ∧ 20 ≤ sender.cfg.wireBufSize ∧ sender.initDone = true ∧ sender.txLen ≠ 0 ∧
      (sender.ownMsg = 0xFFFF → sender.agentAnswers = true)) ∧
    ∃ s : State, s.Inv ∧ 20 ≤ s.cfg.wireBufSize ∧ s.initDone = true ∧ s.txLen ≠ 0 ∧ s.ownMsg = 0xFFFF ∧
      s.agentAnswers = true :=
  ⟨by decide, by decide, ⟨inv_sender, by decide +kernel⟩, { sender with ownMsg := 0xFFFF },
    { inv_sender with before_init := fun h => absurd h (by decide) }, by decide +kernel⟩
theorem witness_FinalizeCountersRunAndWrap :
    (∃ t, advanceOwnCounters sender = .next t ∧ (sender.ownMsg != 0xFFFF) = true) ∧
    (∃ t, advanceOwnCounters { sender with ownMsg := 0xFFFF } = .next t ∧ (t.ownMsg == 1) = true) ∧
    (∀ i ∈ [Instr.buildBeacon 1, .buildSet1 2 3 4], isBuild i = true) ∧
    sender.Inv ∧ sender.cfg.legal = true ∧ sender.initDone = true ∧ sender.agentAnswers = true ∧ sender.ownMsg = 0 :=
  ⟨exists_next (by decide +kernel), exists_next (by decide +kernel), by decide, inv_sender, by decide +kernel⟩
theorem witness_EmittedPairsIncrease : sender.Inv ∧ sender.initDone = true ∧
    (∃ t, exec .finalize sender = .next t ∧ (t.succeeded && sender.ownRst != 0xFFFF) = true) ∧
    ∃ t, exec .dispatch sender = .next t ∧ (!t.succeeded) = true :=
  ⟨inv_sender, by decide, exists_next (by decide +kernel), exists_next (by decide +kernel)⟩
theorem witness_BuiltMessageIsReceivedAsBuilt :
    buildParts (.buildBeacon 0x499602D2) = some (.beacon, 0xFFFF, [0x49, 0x96, 0x02, 0xD2]) ∧
    sender.Inv ∧ sender.cfg.legal = true ∧
    (∃ s1, exec (.buildBeacon 0x499602D2) sender = .next s1 ∧ ∃ s2, exec .finalize s1 = .next s2 ∧
      (s2.rsp == some { status := .success, results := 0x10 :: frameF8 } &&
        (classify sender.ownAddr s2.ownRst s2.ownMsg receiver).status.accepting) = true) ∧
    receiver.Inv ∧ receiver.cfg.legal = true ∧ receiver.cfg.wireBufSize = sender.cfg.wireBufSize ∧
    receiver.initDone = true ∧ receiver.agentAnswers = true :=
  ⟨by decide, inv_sender, by decide +kernel, ⟨_, eq_next_after (by decide +kernel), exists_next (by decide +kernel)⟩,
    inv_receiver, by decide +kernel⟩
theorem witness_ProcessGateAndClears : State.reset.initDone = false ∧ receiver.initDone = true ∧
    (∃ t, exec (.process frameFB) receiver = .next t ∧ (byteAt frameFB 0 != 0xAA) = true) ∧
    ∃ t, exec (.process frameFD) receiver = .next t ∧
      (frameDst frameFD != receiver.ownAddr && frameDst frameFD != 0xFFFF) = true :=
  ⟨by decide, by decide, exists_next (by decide +kernel), exists_next (by decide +kernel)⟩
theorem witness_MagicCheckAndExtraction : receiver.initDone = true ∧ byteAt frameFB 0 ≠ 0xAA ∧
    (∃ t, exec (.process frameFB) receiver = .next t ∧ (!t.rxValid) = true) ∧
    ∃ t, exec (.process frameF8) receiver = .next t ∧ (byteAt frameF8 0 == 0xAA) = true :=
  ⟨by decide, by decide, exists_next (by decide +kernel), exists_next (by decide +kernel)⟩
theorem witness_DestinationCheckComesFirst : receiver.initDone = true ∧ byteAt frameFD 0 = 0xAA ∧
    frameDst frameFD ≠ receiver.ownAddr ∧ frameDst frameFD ≠ 0xFFFF ∧ receiver.ownAddr ≠ 0x0000 ∧
    ∃ t, exec (.process (frameFD.set 3 0 |>.set 4 0)) receiver = .next t ∧
      (frameDst (frameFD.set 3 0 |>.set 4 0) == 0x0000) = true :=
  ⟨by decide, by decide, by decide +kernel, by decide, by decide +kernel, exists_next (by decide +kernel)⟩
theorem witness_FreshnessThenTypeThenChecksum : receiver.initDone = true ∧ receiver.agentAnswers = true ∧
    receiver.peerCount.toNat ≤ receiver.cfg.peerCapacity ∧ 20 ≤ frameF8.length ∧ byteAt frameF8 0 = 0xAA ∧
    (frameDst frameF8 = receiver.ownAddr ∨ frameDst frameF8 = 0xFFFF) := by decide +kernel
/-- Frames of every row of the table. -/
theorem witness_ProcessOutcomeTable : receiver.agentAnswers = true ∧
    receiver.peerCount.toNat ≤ receiver.cfg.peerCapacity ∧
    20 ≤ frameF8.length ∧ State.reset.initDone = false ∧ byteAt frameFB 0 ≠ 0xAA ∧
    (frameDst frameFD ≠ receiver.ownAddr ∧ frameDst frameFD ≠ 0xFFFF) ∧
    MsgType.ofByte (frameType (frameF8.set 9 2)) = none ∧
    crc16 (frameF8.set 15 0) 0 14 ≠ frameChk (frameF8.set 15 0) 4 ∧
    (crc16 frameF8 0 14 = frameChk frameF8 4 ∧
      (classify (frameSrc frameF8) (frameRst frameF8) (frameMsg frameF8) receiverKnows).status = .invalidMessageCounter ∧
      (classify (frameSrc frameF8) (frameRst frameF8) (frameMsg frameF8) receiver).status = .addedNewAddress) := by
  decide +kernel
/-- A known type: the buffers differ in their last byte; an unknown type: in byte 10. -/
theorem witness_PaddingIsIgnored :
    (sender.Inv ∧ 20 ≤ sender.cfg.wireBufSize ∧ ∃ t, exec .finalize sender = .next t ∧
      (t.rsp == some { status := .success, results := 0x10 :: frameF8 }) = true) ∧
    (20 ≤ frameF8.length ∧ (frameF8.set 24 7).length = frameF8.length ∧
      ∀ k, k < 10 + MsgType.beacon.payloadLen + 2 → byteAt frameF8 k = byteAt (frameF8.set 24 7) k) ∧
    MsgType.ofByte (byteAt (frameF8.set 9 2) 9) = none ∧
    ∀ k, k < 10 → byteAt (frameF8.set 9 2) k = byteAt ((frameF8.set 9 2).set 10 7) k :=
  ⟨⟨inv_sender, by decide +kernel, exists_next (by decide +kernel)⟩, by decide, by decide, by decide⟩
theorem witness_WireRowsRunAsProcess : 20 ≤ 25 ∧ frameF8.length = 25 := by decide
theorem witness_WireBeaconIsAccepted : ∀ h : WireHeader, h = { src := 0x1001, dst := 0xFFFF, rst := 1, msg := 1 } →
    receiver.initDone = true ∧ receiver.agentAnswers = true ∧ receiver.peerCount.toNat ≤ receiver.cfg.peerCapacity ∧
    (h.dst = receiver.ownAddr ∨ h.dst = 0xFFFF) ∧ (classify h.src h.rst h.msg receiver).status.accepting = true ∧
    (0x64DB : Half) = crc16 [0xAA, 0x10, 0x01, 0xFF, 0xFF, 0, 1, 0, 1, 0x01, 0x49, 0x96, 0x02, 0xD2] 0 14 := by
  rintro h rfl
  decide +kernel
/-- One header, and the checksum each of the three rows has with it (the second is L2-F-4's). -/
theorem witness_WireSetsAreAccepted : ∀ h : WireHeader, h = { src := 0x1001, dst := 0x2002, rst := 1, msg := 2 } →
    receiver.initDone = true ∧ receiver.agentAnswers = true ∧ receiver.peerCount.toNat ≤ receiver.cfg.peerCapacity ∧
    (h.dst = receiver.ownAddr ∨ h.dst = 0xFFFF) ∧ (classify h.src h.rst h.msg receiver).status.accepting = true ∧
    ∃ hdr : List Byte,
      hdr = [0xAA, hi h.src, lo h.src, hi h.dst, lo h.dst, hi h.rst, lo h.rst, hi h.msg, lo h.msg] ∧
      (0x3CFF : Half) = crc16 (hdr ++ [0x10, 0x7F, 0x20, 0x02]) 0 13 ∧
      (0x74F1 : Half) = crc16 (hdr ++ [0x11, 0x80, 0x20, 0x02, 0x30, 0x03]) 0 15 ∧
      (0xD1D6 : Half) = crc16 (hdr ++ [0x12, 0x01, 0x20, 0x02, 0x20, 0x02, 0xFF, 0xFF]) 0 17 := by
  rintro h rfl
  exact ⟨by decide, by decide, by decide +kernel, by decide +kernel, by decide +kernel, _, rfl, by decide +kernel⟩
theorem witness_DeviceStatusIsAnUnknownType : receiver.initDone = true ∧ receiver.agentAnswers = true ∧
    receiver.peerCount.toNat ≤ receiver.cfg.peerCapacity ∧ receiver.ownAddr = 0x2002 ∧
    isBuild (.buildSet2 1 2 3 4) = true ∧ receiver.txbuf.length = receiver.cfg.wireBufSize ∧
    20 ≤ receiver.cfg.wireBufSize ∧ ∃ t, exec (.buildSet2 1 2 3 4) receiver = .next t ∧ (t.txLen == 17) = true :=
  ⟨by decide, by decide, by decide +kernel, by decide, by decide, by decide +kernel, by decide +kernel,
    exists_next (by decide +kernel)⟩
/-- The six rows, in the order of the statement. -/
theorem witness_ComparatorTruthTable :
    (∀ s ∈ [receiver, receiverKnows, receiverFull], s.agentAnswers = true ∧ s.peerCount.toNat ≤ s.cfg.peerCapacity ∧
      s.peerAddr.length = s.cfg.peerCapacity) ∧
    ((∀ j, j < receiverKnows.peerCount.toNat → receiverKnows.peerAddr.getD j 0 ≠ 0) ∧
      receiverKnows.peerCount.toNat < receiverKnows.cfg.peerCapacity) ∧
    ((∀ j, j < receiverFull.peerCount.toNat → receiverFull.peerAddr.getD j 0 ≠ 0x3003) ∧
      receiverFull.peerCount.toNat = receiverFull.cfg.peerCapacity) ∧
    (1 < receiverFull.peerCount.toNat ∧ receiverFull.peerAddr.getD 1 0 = 0 ∧
      (∀ j, j < 1 → receiverFull.peerAddr.getD j 0 ≠ 0) ∧
      receiverFull.peerRst.getD 1 0 < 0xFFFF ∧ (0 : Half) = receiverFull.peerRst.getD 1 0 ∧
      receiverFull.peerMsg.getD 1 0 < 1 ∧ (0 : Half) ≤ receiverFull.peerMsg.getD 1 0) ∧
    (0 < receiverFull.peerCount.toNat ∧ receiverFull.peerAddr.getD 0 0 = 0x1001 ∧
      (1 : Half) < receiverFull.peerRst.getD 0 0) := by decide +kernel
theorem witness_PeerTableOnlyMovesForward : receiverFull.Inv ∧ receiverFull.cfg.legal = true ∧
    receiverFull.initDone = true ∧
    ∃ t, exec (.process (frameF8.set 6 3)) receiverFull = .next t ∧ (t.peerRst != receiverFull.peerRst) = true :=
  ⟨inv_receiverFull, by decide +kernel, by decide, exists_next (by decide +kernel)⟩
theorem witness_AcceptedPairIsNeverAcceptedAgain : receiver.Inv ∧ receiver.cfg.legal = true ∧
    (∃ t, exec (.process frameF8) receiver = .next t ∧ ∃ u, runAll [.dispatch, .init] t = .next u ∧
      ∃ v, exec (.process frameF8) u = .next v ∧ (t.rxValidation.accepting && !v.rxValid) = true) ∧
    frameSrc frameF8 = frameSrc frameF8 ∧
    pairLe (frameRst frameF8) (frameMsg frameF8) (frameRst frameF8) (frameMsg frameF8) :=
  ⟨inv_receiver, by decide +kernel, ⟨_, eq_next_after (by decide +kernel), _, eq_next_after (by decide +kernel),
    exists_next (by decide +kernel)⟩, rfl, .inr ⟨rfl, by decide⟩⟩
theorem witness_NoDuplicateAddresses : receiverKnows.Inv ∧ receiverKnows.cfg.legal = true ∧ receiverKnows.initDone = true ∧
    (receiverKnows.peerAddr.take receiverKnows.peerCount.toNat).Nodup ∧
    ∃ t, exec (.process frameNew) receiverKnows = .next t ∧ (t.peerCount == 2) = true :=
  ⟨inv_receiverKnows, by decide +kernel, by decide, by decide +kernel, exists_next (by decide +kernel)⟩
theorem witness_FullTableRejectsUnknownSources : receiverFull.Inv ∧ receiverFull.cfg.legal = true ∧
    receiverFull.initDone = true ∧ receiverFull.peerCount.toNat = receiverFull.cfg.peerCapacity ∧
    frameSrc frameNew ∉ receiverFull.peerAddr ∧
    (∃ t, runAll [.dispatch, .process frameF8] receiverFull = .next t ∧
      ∃ u, exec (.process frameNew) t = .next u ∧ (!u.rxValid) = true) ∧
    byteAt frameNew 0 = 0xAA ∧ frameDst frameNew = 0xFFFF ∧ MsgType.ofByte (frameType frameNew) = some .beacon ∧
    crc16 frameNew 0 (10 + MsgType.beacon.payloadLen) = frameChk frameNew MsgType.beacon.payloadLen :=
  ⟨inv_receiverFull, by decide +kernel, by decide, by decide +kernel, by decide +kernel,
    ⟨_, eq_next_after (by decide +kernel), exists_next (by decide +kernel)⟩, by decide +kernel⟩
theorem witness_ReplayWindowAfterRestart : ∃ s t u : State, s.Inv ∧ s.cfg.legal = true ∧ s.initDone = true ∧
    s.input = .powerCycle :: .command [0x01] :: [] ∧ step s = .next t ∧ step t = .next u ∧
    lookup s (s.peerAddr.getD 0 0) = some 0 ∧ (0 : Half) < 1 :=
  ⟨{ receiverFull with input := [.powerCycle, .command [0x01]] }, _, _, { inv_receiverFull with }, by decide +kernel,
    by decide, by decide +kernel, eq_next_after (by decide +kernel), eq_next_after (by decide +kernel),
    by decide +kernel, by decide⟩
theorem witness_DispatchConsumesAndEmits : receiver.rxValid = false ∧
    (receiverPending.rxValid = true ∧ (MsgType.ofByte receiverPending.rxType).isSome = true) ∧ receiver.Inv ∧
    State.reset.Inv ∧ State.reset.initDone = false := by
  refine ⟨by decide, by decide +kernel, inv_receiver, inv_reset, by decide⟩
theorem witness_AtMostOneEventPerAcceptedMessage : receiver.rxValid = false ∧
    ∃ p ∈ trace [.process frameF8, .dispatch] receiver, p.2.evt.isSome = true := by decide +kernel
/-- A stored count of P, and one of P + 1, which INIT reads as 0. -/
theorem witness_InitLoadsTheTable : ∀ s ∈ [State.powerOn Config.standard [(8, 2)], State.powerOn Config.standard [(8, 3)]],
    s.initDone = false ∧ s.agentAnswers = true ∧ Memory.wf s.storage ∧ 1 ≤ s.cfg.peerCapacity ∧
    s.cfg.peerCapacity ≤ 255 ∧ nextWith (exec .init s) (·.initDone) = true ∧
    (Memory.get s.storage 8 = 2 ∨ (Memory.get s.storage 8).toNat > s.cfg.peerCapacity) := by decide +kernel
theorem witness_RepeatedInitDoesNothing : receiver.initDone = true := by decide
theorem witness_RegisterCbWritesOneBit : (true = true ↔ (0x7E : Byte) ≠ 0x00) ∧ (false = true ↔ (0x00 : Byte) ≠ 0x00) := by
  decide
theorem witness_QueriesAnswerTheirRegister :
    (Instr.queryRxRst, (0x33 : Byte), [hi receiverPending.rxRst, lo receiverPending.rxRst]) ∈ [
      (Instr.queryRxSrc, (0x30 : Byte), [hi receiverPending.rxSrc, lo receiverPending.rxSrc]),
      (.queryRxRst, 0x33, [hi receiverPending.rxRst, lo receiverPending.rxRst])] ∧
    receiver.initDone = true ∧ ∃ t, exec (.process frameFB) receiver = .next t ∧ (byteAt frameFB 0 != 0xAA) = true :=
  ⟨.tail _ (.head _), by decide, exists_next (by decide +kernel)⟩
theorem witness_EmptyFrameIsAnswered :
    (issued [] receiver).cfg.legal = true ∧ (issued [] receiver).input = .command [] :: [] := by decide +kernel
theorem witness_CrcPastTheDataStopsAtItsEnd : ([1, 2] : List Byte).length < 0 + 3 ∧
    ([1, 2] : List Byte).length < 3 + 0 := by decide
theorem witness_DispatchOfUnsupportedTypeEmitsNothing : ∃ s : State, s.rxValid = true ∧ MsgType.ofByte s.rxType = none :=
  ⟨{ receiver with rxValid := true, rxType := 0x02 }, by decide⟩
/-- One command that fails and one that succeeds. -/
theorem witness_ResponseBytesFollowTheTable : receiverPending.txbuf.length = receiverPending.cfg.wireBufSize ∧
    (∃ t, exec .finalize receiverPending = .next t ∧ (!t.succeeded) = true) ∧
    ∃ t, exec .queryRxSrc receiverPending = .next t ∧ t.succeeded = true :=
  ⟨by decide +kernel, exists_next (by decide +kernel), exists_next (by decide +kernel)⟩
/-- One record of each shape. -/
theorem witness_EventBytesFollowTheTwoShapes :
    (∃ t, exec .dispatch receiverPending = .next t ∧ (t.evt == some (.beacon 0x499602D2)) = true) ∧
    ∃ t, exec .dispatch { receiver with rxValid := true, rxType := 0x12, rxPayload := [7, 0, 0, 0, 0, 0x20, 0x02, 0] } =
      .next t ∧ (t.evt == some (.set 0x12 0x2002 7)) = true :=
  ⟨exists_next (by decide +kernel), exists_next (by decide +kernel)⟩
/-- The first and the last offset of the image, and the offsets next to it. -/
theorem witness_ImageBytesGoToTheirOffsets :
    (0 < 4 * edgeConfig.peerCapacity + 3 ∧ 6 < 4 * edgeConfig.peerCapacity + 3 ∧ 65528 < edgeConfig.storageBase ∧
      edgeConfig.storageBase + 4 * edgeConfig.peerCapacity + 3 ≤ 65536) ∧
    ∃ s : State, s.cfg.legal = true ∧ s.input = .provision [0x10, 0x01] :: [] :=
  ⟨by decide, { receiver with input := [.provision [0x10, 0x01]] }, by decide +kernel⟩
/-- R242 step 2: a wiped and provisioned image. -/
theorem test_provision : (after (step { receiver with input := [.provision [0x10, 0x01, 0, 0, 0, 5, 0, 0, 1, 0, 9]] })).storage =
    [(0, 0x10), (1, 0x01), (5, 5), (8, 1), (10, 9)] := by decide +kernel

end Sys2Proof.Tests
end

section
/-! O56: the STORAGE_IMAGE is read back at its offsets (R8), and a power cycle with a new image is a power cycle but for
the content (R242 step 2). -/

namespace Sys2Proof.Machine

/-! ### Reading an image -/

/-- Bytes written from offset `a` on into empty content are read back, zero-extended, at `a`, `a + 1`, … -/
theorem Memory.get_putBytes_nil_add (bs : List Byte) (a k : Nat) :
    Memory.get (Memory.putBytes [] a bs) (a + k) = byteAt bs k := by
  rw [Memory.get_putBytes bs a (a + k) Memory.wf_nil, Nat.add_sub_cancel_left]
  split
  · rfl
  · exact (byteAt_of_length_le (by omega)).symm

theorem Memory.get_putBytes_nil_of_lt (bs : List Byte) {a x : Nat} (h : x < a) :
    Memory.get (Memory.putBytes [] a bs) x = 0x00 := by
  rw [Memory.get_putBytes bs a x Memory.wf_nil, if_neg (by omega)]
  rfl

/-- Offset S + k of the image's content: byte k of the image inside the range of R57, and 0x00 past its end. -/
theorem imageMemory_get_add (c : Config) (image : List Byte) (k : Nat) :
    Memory.get (imageMemory c image) (c.storageBase + k) = if k < imageSize c then byteAt image k else 0x00 := by
  rw [imageMemory, Memory.get_putBytes_nil_add, byteAt_take]

theorem imageMemory_get_of_unbacked (c : Config) (image : List Byte) {a : Nat}
    (h : a < c.storageBase ∨ c.storageBase + imageSize c ≤ a) : Memory.get (imageMemory c image) a = 0x00 := by
  rcases h with hbelow | habove
  · exact Memory.get_putBytes_nil_of_lt _ hbelow
  · obtain ⟨k, rfl⟩ : ∃ k, a = c.storageBase + k := Nat.exists_eq_add_of_le (by omega)
    rw [imageMemory_get_add, if_neg (by omega)]

/-! ### Stepping on a given input -/

/-- A step of a legal configuration performs the oldest input, with that input off the queue. -/
theorem step_eq_perform {s : State} {i : Input} {rest : List Input} (hlegal : s.cfg.legal = true)
    (hinput : s.input = i :: rest) : step s = perform i { s with input := rest } := by
  simp only [step, hlegal, if_true, performNext, hinput, State.takeInput, List.tail_cons]

/-- Two restarts of one state differ in the content alone. -/
theorem State.restart_eq_restart_with_content (s : State) (m m' : Memory) :
    s.restart m = { s.restart m' with storage := m, committed := m } := rfl

/-- Settles O56: the content is read byte by byte, and a power cycle and a provisioning are two restarts of one state. -/
theorem imageBytesGoToTheirOffsets : Obligations.ImageBytesGoToTheirOffsets := by
  refine ⟨fun c image => ⟨imageMemory_wf c image, fun k hk => ?_, fun a ha => ?_, rfl, rfl⟩, ?_⟩
  · rw [imageMemory_get_add, if_pos (by simpa only [imageSize] using hk)]
  · exact imageMemory_get_of_unbacked c image (by simpa only [imageSize, Nat.add_assoc] using ha)
  · intro s image rest hlegal hinput
    have hcycle : step { s with input := .powerCycle :: rest } = .next (State.powerCycle { s with input := rest }) :=
      step_eq_perform (s := { s with input := .powerCycle :: rest }) hlegal rfl
    refine ⟨_, hcycle, ?_⟩
    calc step s = .next (State.provision image { s with input := rest }) := step_eq_perform hlegal hinput
      _ = .next { State.powerCycle { s with input := rest } with
            storage := imageMemory s.cfg image, committed := imageMemory s.cfg image } :=
        congrArg Host.Outcome.next (State.restart_eq_restart_with_content _ _ _)

end Sys2Proof.Machine
end

section
/-! What a command can do, said once: the state each completed command leaves (R14, R40). -/

namespace Sys2Proof.Machine

/-! ### The states commands end in -/

/-- The state `check_and_update(a, r, m)` leaves when the storage agent answers (R170, R178). -/
def afterCheck (a r m : Half) (s : State) : State :=
  afterTxns ((classify a r m s).txns s.cfg s.peerCount a r) ((classify a r m s).updateTable a r m s)

/-- The state PROCESS leaves from step 4 on, the header registers being loaded (R150, R154). -/
def afterFreshness (f : List Byte) (s : State) : State :=
  judged f (classify s.rxSrc s.rxRst s.rxMsg s).status
    ((afterCheck s.rxSrc s.rxRst s.rxMsg s).recordValidation (classify s.rxSrc s.rxRst s.rxMsg s).status)

/-- The state the first INIT leaves (R200, R201). -/
def afterInit (s : State) : State :=
  (afterTxns (initTxns s) (s.beginCommand.loadPeerTable.completeInit (nextOwnRst s))).respond .success []

/-- The state `build(t, d, p)` leaves (R130). -/
def afterBuild (m : MsgType) (d : Half) (p : List Byte) (s : State) : State :=
  { s with txbuf := builtTxbuf m d p s.txbuf, txLen := BitVec.ofNat 8 m.frameLen }.respond .success []

/-- The state `advance_own_counters()` leaves (R136). -/
def afterAdvance (s : State) : State :=
  if s.ownMsg = 0xFFFF then
    afterTxns (writeHalfTxns (ownRstOff s.cfg) (s.ownRst + 1) ++ [.commit])
      { s with ownMsg := 0x0000 + 1, ownRst := s.ownRst + 1 }
  else { s with ownMsg := s.ownMsg + 1 }

/-- The state FINALIZE steps 2 to 5 leave (R135, R138). -/
def afterEmit (s : State) : State :=
  { s with txbuf := clearFrom s.txbuf 3, txLen := 0 }.respond .success
    (s.txLen :: finalFrame s.ownRst s.ownMsg s.txLen.toNat s.txbuf)

theorem eq_afterCheck_of_checkAndUpdate {a r m : Half} {s t : State} (h : checkAndUpdate a r m s = .next t) :
    t = afterCheck a r m s :=
  ((issue_eq_next _).mp h).2.2

theorem eq_afterFreshness_of_checkFreshness {f : List Byte} {s t : State} (h : checkFreshness f s = .next t) :
    t = afterFreshness f s := by
  obtain ⟨u, hu, hj⟩ := andThen_eq_next.mp h
  rw [judge_eq, eq_afterCheck_of_checkAndUpdate hu] at hj
  exact (Host.Outcome.next.inj hj).symm

theorem eq_afterAdvance_of_advanceOwnCounters {s t : State} (h : advanceOwnCounters s = .next t) :
    t = afterAdvance s := by
  unfold advanceOwnCounters at h
  unfold afterAdvance
  split at h
  · next hmax => rw [if_pos hmax]; exact ((issue_eq_next _).mp h).2.2
  · next hmax => rw [if_neg hmax]; exact (Host.Outcome.next.inj h).symm

/-! ### The effect of a command -/

/-- How a command that completes from `s` ends, with the state it leaves. -/
inductive CommandEffect (s : State) : Instr → State → Prop
  /-- An answer and nothing else: CRC16, the queries, illegal commands, and every error found before a write. -/
  | answered (i : Instr) (st : Status) (results : List Byte) : CommandEffect s i (s.beginCommand.respond st results)
  /-- The first INIT (R200). -/
  | initialized (hinit : s.initDone = false) : CommandEffect s .init (afterInit s)
  /-- REGISTER_CB of a supported type (R203). -/
  | registered {ty en : Byte} {m : MsgType} (htype : MsgType.ofByte ty = some m) :
    CommandEffect s (.registerCb ty en)
      ({ s.beginCommand with cbEn := s.cbEn.put m (en != 0x00) }.respond .success [])
  /-- A builder (R130). -/
  | built {i : Instr} {m : MsgType} {d : Half} {p : List Byte} (hparts : buildParts i = some (m, d, p)) :
    CommandEffect s i (afterBuild m d p s.beginCommand)
  /-- FINALIZE of a built message (R135). -/
  | finalized (hinit : s.initDone = true) (hlen : s.txLen ≠ 0) :
    CommandEffect s .finalize (afterEmit (afterAdvance s.beginCommand))
  /-- DISPATCH of a pending message (R190). -/
  | dispatched (hvalid : s.rxValid = true) :
    CommandEffect s .dispatch ((dispatchAction s.beginCommand.consume).respond .success [])
  /-- PROCESS of a frame with a bad magic byte (R152). -/
  | badMagic {i : Instr} (hproc : isProcess i = true) (hinit : s.initDone = true) :
    CommandEffect s i (s.beginCommand.clearRx.zeroHeader.respond .invalidBuffer [])
  /-- PROCESS of a frame for another destination (R153). -/
  | misdirected {i : Instr} (f : List Byte) (hproc : isProcess i = true) (hinit : s.initDone = true) :
    CommandEffect s i ((s.beginCommand.clearRx.loadHeader f).respond .wrongDestination [])
  /-- PROCESS of a frame that reaches the freshness check (R154). -/
  | checked {i : Instr} (f : List Byte) (hproc : isProcess i = true) (hinit : s.initDone = true)
    (hdst : destinationOk s.ownAddr (frameDst f) = true) :
    CommandEffect s i (afterFreshness f (s.beginCommand.clearRx.loadHeader f))

theorem CommandEffect.of_answer {i : Instr} {s t : State} {st : Status} {results : List Byte}
    (h : finish st results s.beginCommand = .next t) : CommandEffect s i t := by
  cases h
  exact .answered i st results

theorem execInit_effect {s t : State} (h : execInit s = .next t) : CommandEffect s .init t := by
  unfold execInit at h
  split at h
  · exact .of_answer h
  · next hinit =>
    obtain ⟨u, hu, hfinish⟩ := andThen_eq_next.mp h
    obtain ⟨-, -, rfl⟩ := (issue_eq_next _).mp hu
    cases hfinish
    exact .initialized (Bool.eq_false_iff.mpr hinit)

theorem execRegisterCb_effect {ty en : Byte} {s t : State} (h : execRegisterCb ty en s = .next t) :
    CommandEffect s (.registerCb ty en) t := by
  unfold execRegisterCb at h
  split at h
  · exact .of_answer h
  · next m htype =>
    cases h
    exact .registered htype

theorem execCrc16_effect {l start length : Half} {data : List Byte} {s t : State}
    (h : execCrc16 l start length data s = .next t) : CommandEffect s (.crc16 l start length data) t := by
  unfold execCrc16 at h
  split at h
  · exact .of_answer h
  · exact .of_answer h

theorem build_effect {i : Instr} {m : MsgType} {d : Half} {p : List Byte} {s t : State}
    (hparts : buildParts i = some (m, d, p)) (h : build m d p s.beginCommand = .next t) : CommandEffect s i t := by
  cases h
  exact .built hparts

theorem execFinalize_effect {s t : State} (h : execFinalize s = .next t) : CommandEffect s .finalize t := by
  unfold execFinalize at h
  split at h
  · exact .of_answer h
  · next hinit =>
    split at h
    · exact .of_answer h
    · next hlen =>
      obtain ⟨u, hu, hemit⟩ := andThen_eq_next.mp h
      obtain rfl := eq_afterAdvance_of_advanceOwnCounters hu
      cases hemit
      exact .finalized (by simpa using hinit) hlen

theorem processFrame_effect {i : Instr} {f : List Byte} {s t : State} (hproc : isProcess i = true)
    (h : processFrame f s.beginCommand = .next t) : CommandEffect s i t := by
  rcases processFrame_cases h with ⟨-, rfl⟩ | ⟨hinit, -, rfl⟩ | ⟨hinit, -, -, rfl⟩ | ⟨hinit, -, hdst, hfresh⟩
  · exact .answered i .notInitialized []
  · exact .badMagic hproc hinit
  · exact .misdirected f hproc hinit
  · obtain rfl := eq_afterFreshness_of_checkFreshness hfresh
    exact .checked f hproc hinit hdst

theorem execDispatch_effect {s t : State} (h : execDispatch s = .next t) : CommandEffect s .dispatch t := by
  unfold execDispatch at h
  split at h
  · exact .of_answer h
  · next hvalid =>
    cases h
    exact .dispatched (by simpa using hvalid)

/-- Every command that completes ends in one of the ways of `CommandEffect`. -/
theorem exec_effect {i : Instr} {s t : State} (h : exec i s = .next t) : CommandEffect s i t := by
  cases i with
  | init => exact execInit_effect h
  | registerCb => exact execRegisterCb_effect h
  | crc16 => exact execCrc16_effect h
  | buildBeacon | buildSet1 | buildSet2 | buildSet3 => exact build_effect rfl h
  | finalize => exact execFinalize_effect h
  | process | wireBeacon | wireSetIndividual | wireSetTwoIndividuals | wireSetThreeIndividuals
  | wireDeviceStatusReserved => exact processFrame_effect rfl h
  | dispatch => exact execDispatch_effect h
  | queryRxSrc | queryRxDst | queryRxType | queryRxRst | queryRxMsg | queryRxValidation => exact .of_answer h
  | illegalCommand => exact .of_answer h

/-! ### What the parts of a command leave unchanged -/

/-- Steps 5 to 8 of PROCESS write RX_PAYLOAD and RX_VALID, and respond. -/
theorem judged_frame (f : List Byte) (v : Status) (s : State) :
    ∃ payload valid rsp, judged f v s = { s with rxPayload := payload, rxValid := valid, rsp := rsp } := by
  unfold judged
  split
  · exact ⟨_, _, _, rfl⟩
  · split
    · split
      · exact ⟨_, _, _, rfl⟩
      · exact ⟨_, _, _, rfl⟩
    · exact ⟨_, _, _, rfl⟩

/-- A row of the comparator writes the peer table only. -/
theorem updateTable_frame (a r m : Half) (s : State) (f : Freshness) :
    ∃ count addr rst msg, f.updateTable a r m s =
      { s with peerCount := count, peerAddr := addr, peerRst := rst, peerMsg := msg } := by
  cases f <;> exact ⟨_, _, _, _, rfl⟩

/-- `check_and_update` writes the peer table and the storage. -/
theorem afterCheck_frame (a r m : Half) (s : State) :
    ∃ count addr rst msg storage committed sto, afterCheck a r m s =
      { s with
        peerCount := count, peerAddr := addr, peerRst := rst, peerMsg := msg
        storage := storage, committed := committed, sto := sto } := by
  obtain ⟨_, _, _, _, htable⟩ := updateTable_frame a r m s (classify a r m s)
  rw [afterCheck, htable]
  exact ⟨_, _, _, _, _, _, _, rfl⟩

/-- The freshness check and what follows it write the peer table, the storage, RX_VALIDATION, RX_PAYLOAD and RX_VALID. -/
theorem afterFreshness_frame (f : List Byte) (s : State) :
    ∃ count addr rst msg storage committed sto validation payload valid rsp, afterFreshness f s =
      { s with
        peerCount := count, peerAddr := addr, peerRst := rst, peerMsg := msg
        storage := storage, committed := committed, sto := sto
        rxValidation := validation, rxPayload := payload, rxValid := valid, rsp := rsp } := by
  obtain ⟨_, _, _, _, _, _, _, hcheck⟩ := afterCheck_frame s.rxSrc s.rxRst s.rxMsg s
  obtain ⟨_, _, _, hjudged⟩ := judged_frame f (classify s.rxSrc s.rxRst s.rxMsg s).status
    ((afterCheck s.rxSrc s.rxRst s.rxMsg s).recordValidation (classify s.rxSrc s.rxRst s.rxMsg s).status)
  rw [afterFreshness, hjudged, hcheck]
  exact ⟨_, _, _, _, _, _, _, _, _, _, _, rfl⟩

/-- Advancing the own counters writes them and, on overflow, the storage. -/
theorem afterAdvance_frame (s : State) :
    ∃ msg rst storage committed sto, afterAdvance s =
      { s with ownMsg := msg, ownRst := rst, storage := storage, committed := committed, sto := sto } := by
  unfold afterAdvance
  split
  · exact ⟨_, _, _, _, _, rfl⟩
  · exact ⟨_, _, _, _, _, rfl⟩

/-- DISPATCH's action emits an event record or does nothing (R193, R194). -/
theorem dispatchAction_frame (s : State) : ∃ evt, dispatchAction s = { s with evt := evt } := by
  unfold dispatchAction dispatchBeacon dispatchSet
  repeat' split
  all_goals exact ⟨_, rfl⟩

theorem isBuild_of_buildParts {i : Instr} {parts : MsgType × Half × List Byte} (h : buildParts i = some parts) :
    isBuild i = true := by
  cases i with
  | buildBeacon | buildSet1 | buildSet2 | buildSet3 => rfl
  | _ => cases h

/-! ### The frame of every command -/

/-- Settles O9, by the ways a command ends: each leaves a state that differs from the old one in listed elements only. -/
theorem commandsWriteOnlyTheirElements : Obligations.CommandsWriteOnlyTheirElements := by
  intro i s t h
  cases exec_effect h with
  | answered => simp
  | initialized => simp [afterInit, afterTxns, isBuild, isProcess]
  | registered => simp [isBuild, isProcess]
  | built hparts => simp [afterBuild, isBuild_of_buildParts hparts]
  | finalized =>
    obtain ⟨_, _, _, _, _, hadvance⟩ := afterAdvance_frame s.beginCommand
    simp [hadvance, afterEmit, isBuild, isProcess]
  | dispatched =>
    obtain ⟨_, haction⟩ := dispatchAction_frame s.beginCommand.consume
    simp [haction, isBuild, isProcess]
  | badMagic hproc => simp [hproc]
  | misdirected _ hproc => simp [hproc]
  | checked f hproc =>
    obtain ⟨_, _, _, _, _, _, _, _, _, _, _, hfresh⟩ := afterFreshness_frame f (s.beginCommand.clearRx.loadHeader f)
    simp [hfresh, hproc]

end Sys2Proof.Machine
end

section
/-! O11: the invariant at power-on. The invariant speaks of the block's elements and the storage content, not of the ports. -/

namespace Sys2Proof.Machine

/-! ### Zero bytes, read by index -/

theorem forall_mem_eq_zero_iff {buf : List Byte} : (∀ b ∈ buf, b = 0x00) ↔ ∀ k, byteAt buf k = 0x00 := by
  constructor
  · intro h k
    by_cases hk : k < buf.length
    · rw [byteAt, List.getD_eq_getElem _ _ hk]
      exact h _ (List.getElem_mem hk)
    · exact byteAt_of_length_le (Nat.le_of_not_lt hk)
  · intro h b hb
    obtain ⟨k, hk, rfl⟩ := List.getElem_of_mem hb
    rw [← h k, byteAt, List.getD_eq_getElem _ _ hk]

/-- Any part of a buffer that reads 0x00 everywhere from index `n` on is zero. -/
theorem eq_zero_of_mem_drop {buf : List Byte} {n i : Nat} (h : ∀ k, n ≤ k → byteAt buf k = 0x00) (hi : n ≤ i) :
    ∀ b ∈ buf.drop i, b = 0x00 :=
  forall_mem_eq_zero_iff.mpr fun k => by rw [byteAt_drop]; exact h _ (by omega)

/-! ### Updates the invariant does not see: the ports, the pending inputs, the storage agent's readiness -/

theorem State.Inv.beginCommand {s : State} (h : s.Inv) : s.beginCommand.Inv := { h with }

theorem State.Inv.respond {s : State} (h : s.Inv) (st : Status) (results : List Byte) : (s.respond st results).Inv :=
  { h with }

theorem State.Inv.takeInput {s : State} (h : s.Inv) : s.takeInput.Inv := { h with }

theorem State.Inv.setAgent {s : State} (h : s.Inv) (answers : Bool) : (s.setAgent answers).Inv := { h with }

/-! ### Power-on -/

theorem Config.legal_iff (c : Config) : c.legal = true ↔ c.ownAddr ≠ 0x0000 ∧ c.ownAddr ≠ 0xFFFF ∧
    1 ≤ c.peerCapacity ∧ c.peerCapacity ≤ 255 ∧ c.storageBase + 4 * c.peerCapacity + 3 ≤ 0x10000 ∧
    20 ≤ c.wireBufSize := decide_eq_true_iff

theorem Config.wireBufSize_of_legal {c : Config} (h : c.legal = true) : 20 ≤ c.wireBufSize := by
  obtain ⟨-, -, -, -, -, hB⟩ := (Config.legal_iff c).mp h
  exact hB

theorem Config.peerCapacity_of_legal {c : Config} (h : c.legal = true) : c.peerCapacity ≤ 255 := by
  obtain ⟨-, -, -, hP, -, -⟩ := (Config.legal_iff c).mp h
  exact hP

theorem byteAt_resetTxbuf (c : Config) {k : Nat} (hk : 3 ≤ k) : byteAt (resetTxbuf c) k = 0x00 := by
  rw [resetTxbuf, byteAt_append, if_neg (by simpa using hk), byteAt_replicate_zero]

theorem eq_zero_of_mem_drop_replicate {α : Type} {n i : Nat} {z v : α} (h : v ∈ (List.replicate n z).drop i) :
    v = z :=
  List.eq_of_mem_replicate (List.mem_of_mem_drop h)

theorem State.powerOn_inv {c : Config} {content : Memory} (hB : 20 ≤ c.wireBufSize) (hwf : Memory.wf content) :
    (State.powerOn c content).Inv where
  own_addr := rfl
  txbuf_length := by simp [State.powerOn, resetTxbuf]; omega
  txbuf_fixed := rfl
  tx_len := .inl rfl
  tx_padding := eq_zero_of_mem_drop (fun _ => byteAt_resetTxbuf c) (Nat.le_max_left ..)
  tx_counters b hb := eq_zero_of_mem_drop (i := 5) (fun _ => byteAt_resetTxbuf c) (by omega) b (List.mem_of_mem_take hb)
  tx_checksum h := absurd rfl h
  count_le := Nat.zero_le _
  peer_lengths := ⟨List.length_replicate, List.length_replicate, List.length_replicate⟩
  peer_unused := ⟨fun _ => eq_zero_of_mem_drop_replicate, fun _ => eq_zero_of_mem_drop_replicate,
    fun _ => eq_zero_of_mem_drop_replicate⟩
  rx_payload := ⟨rfl, fun _ => eq_zero_of_mem_drop_replicate⟩
  rx_validation := .inl rfl
  rx_valid h := absurd h Bool.false_ne_true
  before_init _ := ⟨rfl, rfl, rfl, rfl, rfl, rfl, rfl, rfl, rfl⟩
  storage_wf := hwf
  all_committed := rfl
  imaged h := absurd h Bool.false_ne_true

/-- Settles O11: power-on meets the invariant clause by clause, and `State.reset` is the power-on of a legal configuration. -/
theorem powerOnMeetsTheInvariant : Obligations.PowerOnMeetsTheInvariant :=
  ⟨fun _ _ hlegal hwf => State.powerOn_inv (Config.wireBufSize_of_legal hlegal) hwf,
    State.powerOn_inv (by decide) Memory.wf_nil⟩

end Sys2Proof.Machine
end

section
/-! The transmit side keeps the invariant: the builders and FINALIZE's last steps (R130, R135, R138). -/

namespace Sys2Proof.Machine

/-! ### Message types and built frames -/

@[simp] theorem MsgType.ofByte_code (m : MsgType) : MsgType.ofByte m.code = some m := by cases m <;> rfl

theorem MsgType.payloadLen_le (m : MsgType) : m.payloadLen ≤ 7 := by cases m <;> decide

theorem MsgType.frameLen_eq (m : MsgType) : m.frameLen = 12 + m.payloadLen := by cases m <;> rfl

theorem afterBuild_txLen_toNat (m : MsgType) (d : Half) (p : List Byte) (s : State) :
    (afterBuild m d p s).txLen.toNat = m.frameLen := by
  cases m <;> rfl

theorem buildParts_payload_length {i : Instr} {m : MsgType} {d : Half} {p : List Byte}
    (h : buildParts i = some (m, d, p)) : p.length = m.payloadLen := by
  cases i with
  | buildBeacon | buildSet1 | buildSet2 | buildSet3 => cases h; rfl
  | _ => cases h

@[simp] theorem builtTxbuf_length (m : MsgType) (d : Half) (p buf : List Byte) :
    (builtTxbuf m d p buf).length = buf.length := by
  simp [builtTxbuf]

/-- A builder keeps bytes 0 to 2 (R130). -/
theorem byteAt_builtTxbuf_of_lt (m : MsgType) (d : Half) (p buf : List Byte) {k : Nat} (hk : k < 3) :
    byteAt (builtTxbuf m d p buf) k = byteAt buf k := by
  rw [builtTxbuf, byteAt_setBytes, if_neg (by simp only [headerLen]; omega), byteAt_setBytes, if_neg (by omega),
    byteAt_setBytes, if_neg (by omega), byteAt_clearFrom, if_pos hk]

/-- The type byte of a built message (R130). -/
theorem byteAt_builtTxbuf_type (m : MsgType) (d : Half) (p : List Byte) {buf : List Byte} (hlen : 20 ≤ buf.length) :
    byteAt (builtTxbuf m d p buf) 9 = m.code := by
  rw [builtTxbuf, byteAt_setBytes, if_neg (by simp only [headerLen]; omega), byteAt_setBytes,
    if_pos ⟨le_rfl, by simp, by simp; omega⟩]
  rfl

/-- A built message is zero outside its destination, type and payload: counters, checksum and padding (R130). -/
theorem byteAt_builtTxbuf_eq_zero (m : MsgType) (d : Half) (p buf : List Byte) {k : Nat}
    (hk : (5 ≤ k ∧ k < 9) ∨ 10 + p.length ≤ k) : byteAt (builtTxbuf m d p buf) k = 0x00 := by
  rw [builtTxbuf, byteAt_setBytes, if_neg (by simp only [headerLen]; omega), byteAt_setBytes,
    if_neg (by simp only [List.length_singleton]; omega), byteAt_setBytes,
    if_neg (by simp only [halfBytes_length]; omega), byteAt_clearFrom, if_neg (by omega)]

theorem take_eq_of_byteAt {x y : List Byte} {n : Nat} (hlen : x.length = y.length)
    (h : ∀ k, k < n → byteAt x k = byteAt y k) : x.take n = y.take n := by
  refine eq_of_byteAt (by simp [hlen]) fun k hk => ?_
  have hkn : k < n := by simp at hk; omega
  rw [byteAt_take, byteAt_take, if_pos hkn, if_pos hkn, h k hkn]

/-- The bytes of a part `[i, i + n)` of a buffer are zero when the buffer reads zero there. -/
theorem eq_zero_of_mem_take_drop {buf : List Byte} {i n : Nat} (h : ∀ k, i ≤ k → k < i + n → byteAt buf k = 0x00) :
    ∀ b ∈ (buf.drop i).take n, b = 0x00 :=
  forall_mem_eq_zero_iff.mpr fun k => by
    rw [byteAt_take, byteAt_drop]
    split
    · exact h _ (by omega) (by omega)
    · rfl

/-! ### The invariant -/

theorem State.Inv.afterBuild {s : State} (h : s.Inv) (hB : 20 ≤ s.cfg.wireBufSize) {m : MsgType} {d : Half}
    {p : List Byte} (hp : p.length = m.payloadLen) : (afterBuild m d p s).Inv where
  __ := h
  txbuf_length := (builtTxbuf_length m d p s.txbuf).trans h.txbuf_length
  txbuf_fixed :=
    (take_eq_of_byteAt (builtTxbuf_length m d p s.txbuf) fun _ => byteAt_builtTxbuf_of_lt m d p s.txbuf).trans
      h.txbuf_fixed
  tx_len := .inr (by
    have htype : byteAt (builtTxbuf m d p s.txbuf) 9 = m.code :=
      byteAt_builtTxbuf_type m d p (by rw [h.txbuf_length]; exact hB)
    simp [Machine.afterBuild, htype])
  tx_padding := eq_zero_of_mem_drop (n := m.frameLen)
    (fun k hk => byteAt_builtTxbuf_eq_zero m d p s.txbuf (.inr (by have := m.frameLen_eq; omega)))
    (by rw [afterBuild_txLen_toNat]; exact Nat.le_max_right ..)
  tx_counters := eq_zero_of_mem_take_drop fun k h5 h9 => byteAt_builtTxbuf_eq_zero m d p s.txbuf (.inl ⟨h5, h9⟩)
  tx_checksum _ := eq_zero_of_mem_take_drop fun k hk _ => byteAt_builtTxbuf_eq_zero m d p s.txbuf (.inr (by
    have := m.frameLen_eq
    rw [afterBuild_txLen_toNat] at hk
    omega))

theorem State.Inv.afterEmit {s : State} (h : s.Inv) : (afterEmit s).Inv where
  __ := h
  txbuf_length := (clearFrom_length s.txbuf 3).trans h.txbuf_length
  txbuf_fixed :=
    (take_eq_of_byteAt (clearFrom_length s.txbuf 3) fun k hk => by rw [byteAt_clearFrom, if_pos hk]).trans h.txbuf_fixed
  tx_len := .inl rfl
  tx_padding := eq_zero_of_mem_drop (n := 3) (fun k hk => by
    simp only [Machine.afterEmit, State.respond_txbuf]
    rw [byteAt_clearFrom, if_neg (by omega)]) (Nat.le_max_left ..)
  tx_counters := eq_zero_of_mem_take_drop fun k hk _ => by
    simp only [Machine.afterEmit, State.respond_txbuf]
    rw [byteAt_clearFrom, if_neg (by omega)]
  tx_checksum hlen := absurd rfl hlen

end Sys2Proof.Machine
end

section
/-! The storage image follows the peer table and the own reset counter: what INIT, FINALIZE and the comparator's rows
store, and that the invariant is kept (R35, R57, R136, R178, R200). -/

namespace Sys2Proof.Machine

/-! ### Bytes a list of transactions does not write -/

theorem Memory.get_store_of_not_written {a : Nat} {ts : List StTxn} (m : Memory)
    (h : ∀ off b, StTxn.write off b ∈ ts → off ≠ a) : Memory.get (ts.foldl StTxn.store m) a = Memory.get m a := by
  induction ts generalizing m with
  | nil => rfl
  | cons t ts ih =>
    rw [List.foldl_cons, ih _ fun off b hw => h off b (List.mem_cons_of_mem _ hw)]
    cases t with
    | read _ => rfl
    | write off b => exact Memory.get_put_other m off a b (h off b List.mem_cons_self).symm
    | commit => rfl

theorem Memory.getHalf_store_of_not_written {a : Nat} {ts : List StTxn} (m : Memory)
    (h : ∀ off b, StTxn.write off b ∈ ts → off ≠ a ∧ off ≠ a + 1) :
    Memory.getHalf (ts.foldl StTxn.store m) a = Memory.getHalf m a := by
  rw [Memory.getHalf, Memory.get_store_of_not_written m fun off b hw => (h off b hw).1,
    Memory.get_store_of_not_written m fun off b hw => (h off b hw).2, Memory.getHalf]

theorem foldl_store_of_no_write {ts : List StTxn} (m : Memory) (h : ∀ off b, StTxn.write off b ∉ ts) :
    ts.foldl StTxn.store m = m := by
  induction ts generalizing m with
  | nil => rfl
  | cons t ts ih =>
    have htail : ts.foldl StTxn.store m = m := ih m fun off b hw => h off b (List.mem_cons_of_mem _ hw)
    cases t with
    | read _ => exact htail
    | write off b => exact absurd List.mem_cons_self (h off b)
    | commit => exact htail

theorem write_mem_writeHalfTxns {x off : Nat} {v : Half} {b : Byte} (h : StTxn.write off b ∈ writeHalfTxns x v) :
    off = x ∨ off = x + 1 := by
  simp only [writeHalfTxns, List.mem_cons, StTxn.write.injEq, List.not_mem_nil, or_false] at h
  omega

/-- A commit at the end of a command's transactions leaves nothing uncommitted (R63). -/
theorem afterTxns_committed_of_commit (ts : List StTxn) (s : State) :
    (afterTxns (ts ++ [.commit]) s).committed = (afterTxns (ts ++ [.commit]) s).storage := by
  simp only [afterTxns, commitFold_commit, foldl_store_commit]

/-! ### The own reset counter -/

/-- The content after the own reset counter is stored (R57, R136, R200). -/
def storeOwnRst (c : Config) (v : Half) (m : Memory) : Memory := (writeHalfTxns (ownRstOff c) v).foldl StTxn.store m

theorem storeOwnRst_wf (c : Config) (v : Half) {m : Memory} (hm : Memory.wf m) : Memory.wf (storeOwnRst c v m) :=
  foldl_store_wf _ hm

theorem getHalf_storeOwnRst (c : Config) (v : Half) {m : Memory} (hm : Memory.wf m) :
    Memory.getHalf (storeOwnRst c v m) (ownRstOff c) = v :=
  Memory.getHalf_writeHalf hm _ v

theorem get_count_storeOwnRst (c : Config) (v : Half) (m : Memory) :
    Memory.get (storeOwnRst c v m) (countOff c) = Memory.get m (countOff c) :=
  Memory.get_writeHalf_other m _ _ v (by simp only [countOff, ownRstOff]; omega)
    (by simp only [countOff, ownRstOff]; omega)

theorem getHalf_peerAddr_storeOwnRst {c : Config} (v : Half) (m : Memory) {i : Nat} (hi : i < c.peerCapacity) :
    Memory.getHalf (storeOwnRst c v m) (peerAddrOff c i) = Memory.getHalf m (peerAddrOff c i) :=
  Memory.getHalf_writeHalf_other m _ _ v (by simp only [peerAddrOff, ownRstOff]; omega)

theorem getHalf_peerRst_storeOwnRst {c : Config} (v : Half) (m : Memory) {i : Nat} (hi : i < c.peerCapacity) :
    Memory.getHalf (storeOwnRst c v m) (peerRstOff c i) = Memory.getHalf m (peerRstOff c i) :=
  Memory.getHalf_writeHalf_other m _ _ v (by simp only [peerRstOff, ownRstOff]; omega)

/-! ### Advancing the own counters -/

theorem State.Inv.afterAdvance {s : State} (h : s.Inv) (hinit : s.initDone = true) : (afterAdvance s).Inv := by
  unfold Machine.afterAdvance
  split
  · exact
    { h with
      before_init := fun hn => absurd (hinit.symm.trans hn) (by decide)
      storage_wf := foldl_store_wf _ h.storage_wf
      all_committed := afterTxns_committed_of_commit _ _
      imaged := fun _ => by
        obtain ⟨hcount, hentry, -⟩ := h.imaged hinit
        have hstorage : ∀ u : State, (afterTxns (writeHalfTxns (ownRstOff s.cfg) (s.ownRst + 1) ++ [.commit]) u).storage =
            storeOwnRst s.cfg (s.ownRst + 1) u.storage := fun u => foldl_store_commit _ _
        refine ⟨?_, fun i hi => ?_, ?_⟩
        · rw [countImaged, hstorage]
          exact (get_count_storeOwnRst s.cfg _ s.storage).symm ▸ hcount
        · have hiP : i < s.cfg.peerCapacity := Nat.lt_of_lt_of_le hi h.count_le
          rw [entryImaged, hstorage]
          exact ⟨(getHalf_peerAddr_storeOwnRst _ _ hiP).trans (hentry i hi).1,
            (getHalf_peerRst_storeOwnRst _ _ hiP).trans (hentry i hi).2⟩
        · rw [hstorage]
          exact getHalf_storeOwnRst s.cfg _ h.storage_wf }
  · exact { h with before_init := fun hn => absurd (hinit.symm.trans hn) (by decide) }

/-! ### INIT -/

theorem loadedCount_le (s : State) : loadedCount s ≤ s.cfg.peerCapacity := by
  unfold loadedCount
  split <;> omega

theorem loadedCount_toNat (s : State) : (BitVec.ofNat 8 (loadedCount s)).toNat = loadedCount s := by
  have : loadedCount s < 256 := by
    unfold loadedCount
    split <;> omega
  simpa using this

theorem getD_map_range {n k : Nat} (f : Nat → Half) (hk : k < n) : ((List.range n).map f).getD k 0 = f k := by
  simp [List.getD, hk]

/-- Past the loaded count an installed entry is zero (R201). -/
theorem eq_zero_of_mem_drop_map_range {n c : Nat} (f : Nat → Half) {v : Half}
    (h : v ∈ ((List.range n).map fun i => if i < c then f i else 0).drop c) : v = 0 := by
  obtain ⟨k, hk, rfl⟩ := List.mem_drop_iff_getElem.mp h
  simp

/-- INIT stores the own reset counter and nothing else (R200). -/
theorem foldl_initTxns (s : State) (m : Memory) :
    (initTxns s).foldl StTxn.store m = storeOwnRst s.cfg (nextOwnRst s) m := by
  rw [initTxns, foldl_store_commit, List.foldl_append, foldl_store_of_no_write (ts := _ ++ _ ++ _)]
  · rfl
  · simp [readHalfTxns]

theorem afterInit_countImaged (s : State) : countImaged (afterInit s) := by
  have hstored : Memory.get (afterInit s).storage (countOff s.cfg) = Memory.get s.storage (countOff s.cfg) :=
    (congrArg (Memory.get · _) (foldl_initTxns s s.storage)).trans (get_count_storeOwnRst _ _ _)
  have hcount : (afterInit s).peerCount = BitVec.ofNat 8 (loadedCount s) := rfl
  rw [countImaged, hcount, show (afterInit s).cfg = s.cfg from rfl, hstored, loadedCount]
  split
  · next hgt => exact .inr ⟨rfl, hgt⟩
  · exact .inl (by simp)

theorem afterInit_entryImaged (s : State) {i : Nat} (hi : i < loadedCount s) : entryImaged (afterInit s) i := by
  have hiP : i < s.cfg.peerCapacity := Nat.lt_of_lt_of_le hi (loadedCount_le s)
  have hstorage : (afterInit s).storage = storeOwnRst s.cfg (nextOwnRst s) s.storage := foldl_initTxns s s.storage
  rw [entryImaged, hstorage]
  constructor
  · calc Memory.getHalf (storeOwnRst s.cfg (nextOwnRst s) s.storage) (peerAddrOff s.cfg i)
        = Memory.getHalf s.storage (peerAddrOff s.cfg i) := getHalf_peerAddr_storeOwnRst _ _ hiP
      _ = (afterInit s).peerAddr.getD i 0 := by
        rw [show (afterInit s).peerAddr = s.loadPeerTable.peerAddr from rfl, State.loadPeerTable_peerAddr,
          getD_map_range _ hiP, if_pos hi]
  · calc Memory.getHalf (storeOwnRst s.cfg (nextOwnRst s) s.storage) (peerRstOff s.cfg i)
        = Memory.getHalf s.storage (peerRstOff s.cfg i) := getHalf_peerRst_storeOwnRst _ _ hiP
      _ = (afterInit s).peerRst.getD i 0 := by
        rw [show (afterInit s).peerRst = s.loadPeerTable.peerRst from rfl, State.loadPeerTable_peerRst,
          getD_map_range _ hiP, if_pos hi]

theorem State.Inv.afterInit {s : State} (h : s.Inv) : (afterInit s).Inv where
  __ := h
  count_le := (loadedCount_toNat s).trans_le (loadedCount_le s)
  peer_lengths := by simp [Machine.afterInit, afterTxns]
  peer_unused := by
    rw [show (Machine.afterInit s).peerCount.toNat = loadedCount s from loadedCount_toNat s]
    exact ⟨fun _ => eq_zero_of_mem_drop_map_range (fun i => Memory.getHalf s.storage (peerAddrOff s.cfg i)),
      fun _ => eq_zero_of_mem_drop_map_range (fun i => Memory.getHalf s.storage (peerRstOff s.cfg i)),
      fun _ => eq_zero_of_mem_drop_replicate⟩
  rx_valid hv := ⟨rfl, (h.rx_valid hv).2⟩
  before_init hn := absurd hn (by simp [Machine.afterInit, afterTxns])
  storage_wf := foldl_store_wf _ h.storage_wf
  all_committed := afterTxns_committed_of_commit _ _
  imaged _ := by
    refine ⟨afterInit_countImaged s, fun i hi => afterInit_entryImaged s ?_, ?_⟩
    · exact Nat.lt_of_lt_of_eq hi (loadedCount_toNat s)
    · exact (congrArg (Memory.getHalf · _) (foldl_initTxns s s.storage)).trans
        (getHalf_storeOwnRst s.cfg _ h.storage_wf)

/-! ### The comparator's rows -/

theorem getD_set_self {l : List Half} {i : Nat} (v : Half) (hi : i < l.length) : (l.set i v).getD i 0 = v := by
  simp [List.getD, hi]

theorem getD_set_of_ne {i k : Nat} (l : List Half) (v : Half) (h : i ≠ k) : (l.set i v).getD k 0 = l.getD k 0 := by
  simp [List.getD, h]

/-- Writing an entry below the new count keeps the unused entries zero (R35 (b)). -/
theorem eq_zero_of_mem_drop_set {l : List Half} {n n' i : Nat} {x : Half} (h : ∀ v ∈ l.drop n, v = 0) (hn : n ≤ n')
    (hi : i < n') : ∀ v ∈ (l.set i x).drop n', v = 0 := by
  rw [List.drop_set_of_lt hi]
  exact fun v hv => h v (List.drop_subset_drop_left l hn hv)

/-- The offsets an added peer is stored at (R178). -/
theorem write_mem_txns_add {c : Config} {n : Byte} {a r : Half} {off : Nat} {b : Byte}
    (h : StTxn.write off b ∈ Freshness.add.txns c n a r) :
    off = peerAddrOff c n.toNat ∨ off = peerAddrOff c n.toNat + 1 ∨ off = peerRstOff c n.toNat ∨
      off = peerRstOff c n.toNat + 1 ∨ off = countOff c := by
  simp only [Freshness.txns, List.mem_append, List.mem_cons, List.not_mem_nil, or_false, StTxn.write.injEq,
    reduceCtorEq] at h
  rcases h with (h | h) | ⟨h, -⟩
  · have := write_mem_writeHalfTxns h; omega
  · have := write_mem_writeHalfTxns h; omega
  · omega

/-- The offsets a restarted peer is stored at (R178). -/
theorem write_mem_txns_restart {c : Config} {n : Byte} {a r : Half} {i off : Nat} {b : Byte}
    (h : StTxn.write off b ∈ (Freshness.restart i).txns c n a r) : off = peerRstOff c i ∨ off = peerRstOff c i + 1 := by
  simp only [Freshness.txns, List.mem_append, List.mem_cons, List.not_mem_nil, or_false, reduceCtorEq] at h
  exact write_mem_writeHalfTxns h

/-- What the image holds after an added peer is stored: its entry, the new count, and all else as before (R172, R178). -/
theorem store_txns_add {c : Config} {n : Byte} (a r : Half) {m : Memory} (hm : Memory.wf m)
    (hn : n.toNat < c.peerCapacity) :
    Memory.get ((Freshness.add.txns c n a r).foldl StTxn.store m) (countOff c) = n + 1 ∧
    Memory.getHalf ((Freshness.add.txns c n a r).foldl StTxn.store m) (peerAddrOff c n.toNat) = a ∧
    Memory.getHalf ((Freshness.add.txns c n a r).foldl StTxn.store m) (peerRstOff c n.toNat) = r ∧
    Memory.getHalf ((Freshness.add.txns c n a r).foldl StTxn.store m) (ownRstOff c) = Memory.getHalf m (ownRstOff c) := by
  refine ⟨?_, ?_, ?_, Memory.getHalf_store_of_not_written m fun off b hw => ?_⟩
  · rw [Freshness.txns, List.foldl_append]
    exact Memory.get_put_same (foldl_store_wf _ hm) _ _
  · rw [Freshness.txns, List.append_assoc, List.foldl_append, Memory.getHalf_store_of_not_written]
    · exact Memory.getHalf_writeHalf hm _ a
    · intro off b hw
      simp only [List.mem_append, List.mem_cons, List.not_mem_nil, or_false, StTxn.write.injEq, reduceCtorEq] at hw
      simp only [peerAddrOff, countOff, peerRstOff] at hw ⊢
      rcases hw with hw | ⟨hw, -⟩
      · have := write_mem_writeHalfTxns hw; omega
      · omega
  · rw [Freshness.txns, List.foldl_append, List.foldl_append, Memory.getHalf_store_of_not_written]
    · exact Memory.getHalf_writeHalf (foldl_store_wf _ hm) _ r
    · intro off b hw
      simp only [List.mem_cons, List.not_mem_nil, or_false, StTxn.write.injEq, reduceCtorEq] at hw
      simp only [countOff, peerRstOff] at hw ⊢
      omega
  · have := write_mem_txns_add hw
    simp only [peerAddrOff, peerRstOff, countOff, ownRstOff] at this ⊢
    omega

/-- Adding a peer leaves the entries below the count in the image alone (R178). -/
theorem getHalf_store_txns_add_of_lt {c : Config} {n : Byte} (a r : Half) (m : Memory) {k : Nat}
    (hk : k < n.toNat) (hn : n.toNat < c.peerCapacity) :
    Memory.getHalf ((Freshness.add.txns c n a r).foldl StTxn.store m) (peerAddrOff c k) =
      Memory.getHalf m (peerAddrOff c k) ∧
    Memory.getHalf ((Freshness.add.txns c n a r).foldl StTxn.store m) (peerRstOff c k) =
      Memory.getHalf m (peerRstOff c k) := by
  refine ⟨Memory.getHalf_store_of_not_written m fun off b hw => ?_,
    Memory.getHalf_store_of_not_written m fun off b hw => ?_⟩
  · have := write_mem_txns_add hw
    simp only [peerAddrOff, peerRstOff, countOff] at this ⊢
    omega
  · have := write_mem_txns_add hw
    simp only [peerAddrOff, peerRstOff, countOff] at this ⊢
    omega

/-- What the image holds after a restarted peer is stored: its reset counter, and all else as before (R174, R178). -/
theorem store_txns_restart {c : Config} (n : Byte) (a r : Half) {m : Memory} (hm : Memory.wf m) {i : Nat}
    (hi : i < c.peerCapacity) :
    Memory.get (((Freshness.restart i).txns c n a r).foldl StTxn.store m) (countOff c) = Memory.get m (countOff c) ∧
    Memory.getHalf (((Freshness.restart i).txns c n a r).foldl StTxn.store m) (peerRstOff c i) = r ∧
    Memory.getHalf (((Freshness.restart i).txns c n a r).foldl StTxn.store m) (ownRstOff c) =
      Memory.getHalf m (ownRstOff c) := by
  refine ⟨Memory.get_store_of_not_written m fun off b hw => ?_, ?_,
    Memory.getHalf_store_of_not_written m fun off b hw => ?_⟩
  · have := write_mem_txns_restart hw
    simp only [peerRstOff, countOff] at this ⊢
    omega
  · rw [Freshness.txns, foldl_store_commit]
    exact Memory.getHalf_writeHalf hm _ r
  · have := write_mem_txns_restart hw
    simp only [peerRstOff, ownRstOff] at this ⊢
    omega

/-- Restarting a peer leaves every address and the other reset counters in the image alone (R178). -/
theorem getHalf_store_txns_restart_of_lt {c : Config} (n : Byte) (a r : Half) (m : Memory) {i k : Nat}
    (hk : k < c.peerCapacity) :
    Memory.getHalf (((Freshness.restart i).txns c n a r).foldl StTxn.store m) (peerAddrOff c k) =
      Memory.getHalf m (peerAddrOff c k) ∧
    (i ≠ k → Memory.getHalf (((Freshness.restart i).txns c n a r).foldl StTxn.store m) (peerRstOff c k) =
      Memory.getHalf m (peerRstOff c k)) := by
  refine ⟨Memory.getHalf_store_of_not_written m fun off b hw => ?_,
    fun hik => Memory.getHalf_store_of_not_written m fun off b hw => ?_⟩
  · have := write_mem_txns_restart hw
    simp only [peerAddrOff, peerRstOff] at this ⊢
    omega
  · have := write_mem_txns_restart hw
    simp only [peerRstOff] at this ⊢
    omega

theorem peerCount_add_one {s : State} (hroom : s.peerCount.toNat < s.cfg.peerCapacity)
    (hP : s.cfg.peerCapacity ≤ 255) : (s.peerCount + 1).toNat = s.peerCount.toNat + 1 := by
  rw [BitVec.toNat_add, Nat.mod_eq_of_lt]
  · rfl
  · simp; omega

theorem State.Inv.afterAdd {s : State} (h : s.Inv) (hinit : s.initDone = true) (hP : s.cfg.peerCapacity ≤ 255)
    (hroom : s.peerCount.toNat < s.cfg.peerCapacity) (a r m : Half) :
    (afterTxns (Freshness.add.txns s.cfg s.peerCount a r) (Freshness.add.updateTable a r m s)).Inv := by
  have hcount := peerCount_add_one hroom hP
  obtain ⟨hlenA, hlenR, hlenM⟩ := h.peer_lengths
  obtain ⟨hunA, hunR, hunM⟩ := h.peer_unused
  obtain ⟨-, hentry, hown⟩ := h.imaged hinit
  obtain ⟨hstCount, hstAddr, hstRst, hstOwn⟩ := store_txns_add a r h.storage_wf hroom
  exact
  { h with
    count_le := hcount.trans_le hroom
    peer_lengths := ⟨List.length_set.trans hlenA, List.length_set.trans hlenR, List.length_set.trans hlenM⟩
    peer_unused := by
      have hle : s.peerCount.toNat ≤ (s.peerCount + 1).toNat := by omega
      have hlt : s.peerCount.toNat < (s.peerCount + 1).toNat := by omega
      exact ⟨eq_zero_of_mem_drop_set hunA hle hlt, eq_zero_of_mem_drop_set hunR hle hlt,
        eq_zero_of_mem_drop_set hunM hle hlt⟩
    before_init := fun hn => absurd (hinit.symm.trans hn) (by decide)
    storage_wf := foldl_store_wf _ h.storage_wf
    all_committed := afterTxns_committed_of_commit
      (writeHalfTxns _ a ++ writeHalfTxns _ r ++ [.write (countOff s.cfg) (s.peerCount + 1)]) _
    imaged := fun _ => by
      refine ⟨.inl hstCount, fun k hk => ?_, hstOwn.trans hown⟩
      replace hk : k < s.peerCount.toNat + 1 := Nat.lt_of_lt_of_eq hk hcount
      by_cases heq : s.peerCount.toNat = k
      · subst heq
        exact ⟨hstAddr.trans (getD_set_self a (hlenA ▸ hroom)).symm,
          hstRst.trans (getD_set_self r (hlenR ▸ hroom)).symm⟩
      · have hlt : k < s.peerCount.toNat := by omega
        obtain ⟨hoffA, hoffR⟩ := getHalf_store_txns_add_of_lt a r s.storage hlt hroom
        obtain ⟨holdA, holdR⟩ := hentry k hlt
        exact ⟨hoffA.trans (holdA.trans (getD_set_of_ne _ a heq).symm),
          hoffR.trans (holdR.trans (getD_set_of_ne _ r heq).symm)⟩ }

theorem State.Inv.afterRestart {s : State} (h : s.Inv) (hinit : s.initDone = true) {i : Nat}
    (hi : i < s.peerCount.toNat) (a r m : Half) :
    (afterTxns ((Freshness.restart i).txns s.cfg s.peerCount a r)
      ((Freshness.restart i).updateTable a r m s)).Inv := by
  have hiP : i < s.cfg.peerCapacity := Nat.lt_of_lt_of_le hi h.count_le
  obtain ⟨hlenA, hlenR, hlenM⟩ := h.peer_lengths
  obtain ⟨hunA, hunR, hunM⟩ := h.peer_unused
  obtain ⟨hcount, hentry, hown⟩ := h.imaged hinit
  obtain ⟨hstCount, hstRst, hstOwn⟩ := store_txns_restart s.peerCount a r h.storage_wf hiP
  exact
  { h with
    peer_lengths := ⟨hlenA, List.length_set.trans hlenR, List.length_set.trans hlenM⟩
    peer_unused := ⟨hunA, eq_zero_of_mem_drop_set hunR le_rfl hi, eq_zero_of_mem_drop_set hunM le_rfl hi⟩
    before_init := fun hn => absurd (hinit.symm.trans hn) (by decide)
    storage_wf := foldl_store_wf _ h.storage_wf
    all_committed := afterTxns_committed_of_commit (writeHalfTxns _ r) _
    imaged := fun _ => by
      refine ⟨hcount.imp hstCount.trans fun hover => ⟨hover.1, ?_⟩, fun k hk => ?_, hstOwn.trans hown⟩
      · exact hover.2.trans_eq (congrArg BitVec.toNat hstCount).symm
      · obtain ⟨hoffA, hoffR⟩ := getHalf_store_txns_restart_of_lt s.peerCount a r s.storage (i := i)
          (Nat.lt_of_lt_of_le hk h.count_le)
        obtain ⟨holdA, holdR⟩ := hentry k hk
        refine ⟨hoffA.trans holdA, ?_⟩
        by_cases heq : i = k
        · subst heq
          exact hstRst.trans (getD_set_self r (hlenR ▸ hiP)).symm
        · exact (hoffR heq).trans (holdR.trans (getD_set_of_ne _ r heq).symm) }

theorem State.Inv.afterMsgUpdate {s : State} (h : s.Inv) (hinit : s.initDone = true) {i : Nat}
    (hi : i < s.peerCount.toNat) (m : Half) : State.Inv { s with peerMsg := s.peerMsg.set i m } := by
  obtain ⟨hlenA, hlenR, hlenM⟩ := h.peer_lengths
  obtain ⟨hunA, hunR, hunM⟩ := h.peer_unused
  exact
  { h with
    peer_lengths := ⟨hlenA, hlenR, List.length_set.trans hlenM⟩
    peer_unused := ⟨hunA, hunR, eq_zero_of_mem_drop_set hunM le_rfl hi⟩
    before_init := fun hn => absurd (hinit.symm.trans hn) (by decide) }

/-- The freshness check keeps the invariant, row by row (R179). -/
theorem State.Inv.afterCheck {s : State} (h : s.Inv) (hinit : s.initDone = true) (hP : s.cfg.peerCapacity ≤ 255)
    (a r m : Half) : (afterCheck a r m s).Inv := by
  rw [Machine.afterCheck]
  cases hrow : classify a r m s with
  | add => exact h.afterAdd hinit hP (classify_add hrow).1 a r m
  | restart i => exact h.afterRestart hinit (lookup_eq_some.mp (classify_index (.inl hrow))).1 a r m
  | advance i => exact { h.afterMsgUpdate hinit (lookup_eq_some.mp (classify_index (.inr hrow))).1 m with }
  | full | stale | replay => exact { h with }

end Sys2Proof.Machine
end

section
/-! The receive side keeps the invariant, and with it every step (R35, R150 to R158). -/

namespace Sys2Proof.Machine

/-! ### PROCESS -/

theorem State.Inv.clearRx_zeroHeader {s : State} (h : s.Inv) (hinit : s.initDone = true) : s.clearRx.zeroHeader.Inv :=
  { h with
    rx_payload := ⟨List.length_replicate, fun _ => eq_zero_of_mem_drop_replicate⟩
    rx_validation := .inl rfl
    rx_valid := fun hv => absurd hv Bool.false_ne_true
    before_init := fun hn => absurd (hinit.symm.trans hn) (by decide) }

theorem State.Inv.clearRx_loadHeader {s : State} (h : s.Inv) (hinit : s.initDone = true) (f : List Byte) :
    (s.clearRx.loadHeader f).Inv :=
  { h with
    rx_payload := ⟨List.length_replicate, fun _ => eq_zero_of_mem_drop_replicate⟩
    rx_validation := .inl rfl
    rx_valid := fun hv => absurd hv Bool.false_ne_true
    before_init := fun hn => absurd (hinit.symm.trans hn) (by decide) }

/-- A row's outcome is one RX_VALIDATION may hold (R37, R179). -/
theorem State.Inv.recordValidation {s : State} (h : s.Inv) (hinit : s.initDone = true) (hvalid : s.rxValid = false)
    (f : Freshness) : (s.recordValidation f.status).Inv :=
  { h with
    rx_validation := by cases f <;> simp [Freshness.status]
    rx_valid := fun hv => absurd (hvalid.symm.trans hv) Bool.false_ne_true
    before_init := fun hn => absurd (hinit.symm.trans hn) (by decide) }

theorem framePayload_length_le (f : List Byte) (n : Nat) : (framePayload f n).length ≤ n := List.length_take_le n _

/-- Staging fills the first PLEN bytes of RX_PAYLOAD at most (R38, R150 step 6). -/
theorem State.Inv.stagePayload {s : State} (h : s.Inv) (f : List Byte) {m : MsgType}
    (htype : MsgType.ofByte s.rxType = some m) : (s.stagePayload f m.payloadLen).Inv := by
  obtain ⟨hlen, hzero⟩ := h.rx_payload
  have hplen : ((MsgType.ofByte s.rxType).map MsgType.payloadLen).getD 0 = m.payloadLen := by rw [htype]; rfl
  rw [hplen] at hzero
  refine { h with rx_payload := ⟨(setBytes_length _ _ _).trans hlen, ?_⟩ }
  rw [State.stagePayload_rxType, hplen]
  refine eq_zero_of_mem_drop (n := m.payloadLen) (fun k hk => ?_) le_rfl
  have hfit := framePayload_length_le f m.payloadLen
  rw [State.stagePayload_rxPayload, byteAt_setBytes, if_neg (by omega)]
  have := forall_mem_eq_zero_iff.mp hzero (k - m.payloadLen)
  rwa [byteAt_drop, Nat.add_sub_cancel' hk] at this

theorem State.Inv.markValid {s : State} (h : s.Inv) (hinit : s.initDone = true)
    (htype : (MsgType.ofByte s.rxType).isSome = true) (haccept : s.rxValidation.accepting = true)
    (hdst : destinationOk s.ownAddr s.rxDst = true) : s.markValid.Inv :=
  { h with rx_valid := fun _ => ⟨hinit, htype, haccept, hdst⟩ }

theorem State.Inv.judged {s : State} (h : s.Inv) (hinit : s.initDone = true)
    (hdst : destinationOk s.ownAddr s.rxDst = true) (f : List Byte) : (judged f s.rxValidation s).Inv := by
  unfold Machine.judged
  split
  · exact h.respond _ _
  · next m htype =>
    have hstaged := h.stagePayload f htype
    split
    · split
      · next haccept =>
        exact (hstaged.markValid hinit (Option.isSome_of_mem htype) haccept hdst).respond _ _
      · exact hstaged.respond _ _
    · exact hstaged.respond _ _

theorem State.Inv.afterFreshness {s : State} (h : s.Inv) (hinit : s.initDone = true) (hP : s.cfg.peerCapacity ≤ 255)
    (hvalid : s.rxValid = false) (hdst : destinationOk s.ownAddr s.rxDst = true) (f : List Byte) :
    (afterFreshness f s).Inv := by
  have hcheck := h.afterCheck hinit hP s.rxSrc s.rxRst s.rxMsg
  obtain ⟨_, _, _, _, _, _, _, hframe⟩ := afterCheck_frame s.rxSrc s.rxRst s.rxMsg s
  have hrecord := hcheck.recordValidation (by rw [hframe]; exact hinit) (by rw [hframe]; exact hvalid)
    (classify s.rxSrc s.rxRst s.rxMsg s)
  exact hrecord.judged (by rw [hframe]; exact hinit) (by rw [hframe]; exact hdst) f

/-! ### DISPATCH -/

theorem State.Inv.consume {s : State} (h : s.Inv) : s.consume.Inv :=
  { h with rx_valid := fun hv => absurd hv Bool.false_ne_true }

theorem State.Inv.dispatchAction {s : State} (h : s.Inv) : (dispatchAction s).Inv := by
  obtain ⟨_, haction⟩ := dispatchAction_frame s
  rw [haction]
  exact { h with }

/-! ### Commands and the other inputs -/

theorem exec_keeps_inv {i : Instr} {s t : State} (hlegal : s.cfg.legal = true) (h : s.Inv)
    (hexec : exec i s = .next t) : t.Inv := by
  have hB := Config.wireBufSize_of_legal hlegal
  have hP := Config.peerCapacity_of_legal hlegal
  have hbegin := h.beginCommand
  cases exec_effect hexec with
  | answered => exact hbegin.respond _ _
  | initialized => exact h.afterInit
  | registered => exact { h with }
  | built hparts => exact hbegin.afterBuild hB (buildParts_payload_length hparts)
  | finalized hinit => exact (hbegin.afterAdvance hinit).afterEmit
  | dispatched => exact hbegin.consume.dispatchAction.respond _ _
  | badMagic _ hinit => exact (hbegin.clearRx_zeroHeader hinit).respond _ _
  | misdirected f _ hinit => exact (hbegin.clearRx_loadHeader hinit f).respond _ _
  | checked f _ hinit hdst => exact (hbegin.clearRx_loadHeader hinit f).afterFreshness hinit hP rfl hdst f

/-- A power cycle is a power-on but for what lies outside the block (R240). -/
theorem State.restart_inv (s : State) {content : Memory} (hB : 20 ≤ s.cfg.wireBufSize) (hwf : Memory.wf content) :
    (s.restart content).Inv :=
  { State.powerOn_inv hB hwf with }

theorem perform_keeps_inv {i : Input} {s t : State} (hlegal : s.cfg.legal = true) (h : s.Inv)
    (hperform : perform i s = .next t) : t.Inv := by
  have hB := Config.wireBufSize_of_legal hlegal
  cases i with
  | command frame => exact exec_keeps_inv hlegal h hperform
  | powerCycle =>
    cases hperform
    exact s.restart_inv hB (powerLossContent_wf _ (h.all_committed ▸ h.storage_wf))
  | provision image =>
    cases hperform
    exact s.restart_inv hB (imageMemory_wf _ _)
  | storageAgent answers =>
    cases hperform
    exact h.setAgent answers

theorem step_keeps_inv {s t : State} (h : s.Inv) (hstep : step s = .next t) : t.Inv := by
  unfold step at hstep
  split at hstep
  · next hlegal =>
    unfold performNext at hstep
    split at hstep
    · cases hstep
      exact h
    · exact perform_keeps_inv (s := s.takeInput) hlegal h.takeInput hstep
  · cases hstep

/-- Settles O10, by the ways a command ends, each of which keeps the invariant part by part, and by power-on for the
inputs that restart the block. -/
theorem stepKeepsTheInvariant : Obligations.StepKeepsTheInvariant := fun _ _ => step_keeps_inv

end Sys2Proof.Machine
end

section
/-! O39: what the freshness check does to the entries the peer table has (R31, R174 to R177, R180). -/

namespace Sys2Proof.Machine

/-! ### The rows that write a known peer -/

theorem classify_restart {a r m : Half} {s : State} {i : Nat} (h : classify a r m s = .restart i) :
    lookup s a = some i ∧ s.peerRst.getD i 0 < r := by
  have hfound := classify_index (.inl h)
  simp only [classify, hfound] at h
  split at h
  · next hlt => exact ⟨hfound, hlt⟩
  · split at h
    · cases h
    · split at h <;> cases h

theorem classify_advance {a r m : Half} {s : State} {i : Nat} (h : classify a r m s = .advance i) :
    lookup s a = some i ∧ s.peerRst.getD i 0 = r ∧ s.peerMsg.getD i 0 < m := by
  have hfound := classify_index (.inr h)
  simp only [classify, hfound] at h
  split at h
  · cases h
  · next hnlt =>
    split at h
    · cases h
    · next hngt =>
      split at h
      · next hmsg =>
        exact ⟨hfound, BitVec.le_antisymm (BitVec.not_lt.mp hngt) (BitVec.not_lt.mp hnlt), hmsg⟩
      · cases h

theorem pairLe_refl (r m : Half) : pairLe r m r m := .inr ⟨rfl, BitVec.le_refl m⟩

/-- Entry `k` holds the same address and the same pair in both states. -/
def sameEntry (s t : State) (k : Nat) : Prop :=
  t.peerAddr.getD k 0 = s.peerAddr.getD k 0 ∧ t.peerRst.getD k 0 = s.peerRst.getD k 0 ∧
    t.peerMsg.getD k 0 = s.peerMsg.getD k 0

/-- Entry `k`, of address `a`, moves on to the higher pair `(r, m)`. -/
def movesForward (a r m : Half) (s t : State) (k : Nat) : Prop :=
  s.peerAddr.getD k 0 = a ∧ t.peerAddr.getD k 0 = a ∧ t.peerRst.getD k 0 = r ∧ t.peerMsg.getD k 0 = m ∧
    pairLt (s.peerRst.getD k 0) (s.peerMsg.getD k 0) r m

/-- The freshness check never lowers the count (R31, R172). -/
theorem afterCheck_count_le {s : State} (hP : s.cfg.peerCapacity ≤ 255) (a r m : Half) :
    s.peerCount.toNat ≤ (afterCheck a r m s).peerCount.toNat := by
  rw [afterCheck]
  cases hrow : classify a r m s with
  | add => exact (Nat.le_succ _).trans_eq (peerCount_add_one (classify_add hrow).1 hP).symm
  | restart | advance | full | stale | replay => exact le_rfl

/-- The freshness check keeps an entry, or accepts its address and moves it on to exactly the pair checked (R180). -/
theorem afterCheck_entry {s : State} (h : s.Inv) (a r m : Half) {k : Nat} (hk : k < s.peerCount.toNat) :
    sameEntry s (afterCheck a r m s) k ∨
      ((classify a r m s).status.accepting = true ∧ movesForward a r m s (afterCheck a r m s) k) := by
  obtain ⟨hlenA, hlenR, hlenM⟩ := h.peer_lengths
  have hkP : k < s.cfg.peerCapacity := Nat.lt_of_lt_of_le hk h.count_le
  rw [afterCheck]
  cases hrow : classify a r m s with
  | add =>
    have hne : s.peerCount.toNat ≠ k := by omega
    exact .inl ⟨getD_set_of_ne _ a hne, getD_set_of_ne _ r hne, getD_set_of_ne _ m hne⟩
  | restart i =>
    obtain ⟨hfound, hlt⟩ := classify_restart hrow
    obtain ⟨-, -, haddr, -⟩ := lookup_eq_some.mp hfound
    by_cases heq : i = k
    · subst heq
      exact .inr ⟨rfl, haddr, haddr, getD_set_self r (hlenR ▸ hkP), getD_set_self m (hlenM ▸ hkP), .inl hlt⟩
    · exact .inl ⟨rfl, getD_set_of_ne _ r heq, getD_set_of_ne _ m heq⟩
  | advance i =>
    obtain ⟨hfound, hrst, hlt⟩ := classify_advance hrow
    obtain ⟨-, -, haddr, -⟩ := lookup_eq_some.mp hfound
    by_cases heq : i = k
    · subst heq
      exact .inr ⟨rfl, haddr, haddr, hrst, getD_set_self m (hlenM ▸ hkP), .inr ⟨hrst, hlt⟩⟩
    · exact .inl ⟨rfl, rfl, getD_set_of_ne _ m heq⟩
  | full | stale | replay => exact .inl ⟨rfl, rfl, rfl⟩

/-- PROCESS leaves the table its freshness check leaves, and records the check's outcome and operands (R154). -/
theorem afterFreshness_table (f : List Byte) (s : State) :
    (afterFreshness f s).peerCount = (afterCheck s.rxSrc s.rxRst s.rxMsg s).peerCount ∧
    (afterFreshness f s).peerAddr = (afterCheck s.rxSrc s.rxRst s.rxMsg s).peerAddr ∧
    (afterFreshness f s).peerRst = (afterCheck s.rxSrc s.rxRst s.rxMsg s).peerRst ∧
    (afterFreshness f s).peerMsg = (afterCheck s.rxSrc s.rxRst s.rxMsg s).peerMsg ∧
    (afterFreshness f s).rxValidation = (classify s.rxSrc s.rxRst s.rxMsg s).status ∧
    (afterFreshness f s).rxSrc = s.rxSrc ∧ (afterFreshness f s).rxRst = s.rxRst ∧
    (afterFreshness f s).rxMsg = s.rxMsg := by
  obtain ⟨_, _, _, hjudged⟩ := judged_frame f (classify s.rxSrc s.rxRst s.rxMsg s).status
    ((afterCheck s.rxSrc s.rxRst s.rxMsg s).recordValidation (classify s.rxSrc s.rxRst s.rxMsg s).status)
  obtain ⟨_, _, _, _, _, _, _, hcheck⟩ := afterCheck_frame s.rxSrc s.rxRst s.rxMsg s
  rw [afterFreshness, hjudged]
  refine ⟨rfl, rfl, rfl, rfl, rfl, ?_, ?_, ?_⟩
  all_goals rw [hcheck]; rfl

/-! ### Every command -/

/-- Once INIT is done, a command leaves the table as it is, or is a PROCESS that reaches the freshness check. -/
theorem exec_table {i : Instr} {s t : State} (hinit : s.initDone = true) (h : exec i s = .next t) :
    (t.peerCount = s.peerCount ∧ t.peerAddr = s.peerAddr ∧ t.peerRst = s.peerRst ∧ t.peerMsg = s.peerMsg) ∨
    (isProcess i = true ∧ ∃ f, t = afterFreshness f (s.beginCommand.clearRx.loadHeader f)) := by
  cases exec_effect h with
  | checked f hproc => exact .inr ⟨hproc, f, rfl⟩
  | initialized hnot => exact absurd (hinit.symm.trans hnot) (by decide)
  | finalized =>
    obtain ⟨_, _, _, _, _, hadvance⟩ := afterAdvance_frame s.beginCommand
    rw [hadvance]
    exact .inl ⟨rfl, rfl, rfl, rfl⟩
  | dispatched =>
    obtain ⟨_, haction⟩ := dispatchAction_frame s.beginCommand.consume
    rw [haction]
    exact .inl ⟨rfl, rfl, rfl, rfl⟩
  | answered | registered | built | badMagic | misdirected => exact .inl ⟨rfl, rfl, rfl, rfl⟩

/-- Settles O39: only the freshness check writes the table, and it keeps an entry or moves it on to the pair it accepts. -/
theorem peerTableOnlyMovesForward : Obligations.PeerTableOnlyMovesForward := by
  intro i s t h hlegal hinit hexec
  rcases exec_table hinit hexec with ⟨hcount, haddr, hrst, hmsg⟩ | ⟨hproc, f, rfl⟩
  · rw [hcount, haddr, hrst, hmsg]
    exact ⟨le_rfl, fun k _ => ⟨rfl, pairLe_refl _ _, fun hchange => absurd ⟨rfl, rfl⟩ hchange⟩⟩
  · have hload := h.beginCommand.clearRx_loadHeader hinit f
    obtain ⟨hcount, haddr, hrst, hmsg, hval, hsrc, hrxRst, hrxMsg⟩ :=
      afterFreshness_table f (s.beginCommand.clearRx.loadHeader f)
    rw [hcount, haddr, hrst, hmsg, hval, hsrc, hrxRst, hrxMsg]
    refine ⟨afterCheck_count_le (s := s.beginCommand.clearRx.loadHeader f) (Config.peerCapacity_of_legal hlegal) _ _ _,
      fun k hk => ?_⟩
    rcases afterCheck_entry hload _ _ _ hk with ⟨hsameA, hsameR, hsameM⟩ | ⟨haccept, hold, hnew, hr, hm, hlt⟩
    · rw [hsameA, hsameR, hsameM]
      exact ⟨rfl, pairLe_refl _ _, fun hchange => absurd ⟨rfl, rfl⟩ hchange⟩
    · rw [hnew, hr, hm]
      exact ⟨hold.symm, hlt.imp_right (And.imp_right BitVec.le_of_lt), fun _ => ⟨hproc, haccept, hold.symm, rfl, rfl⟩⟩

end Sys2Proof.Machine
end

section
/-! O5, O7: what a step does with the head of the input queue (R51). -/

namespace Sys2Proof.Machine

/-- Settles O5: a step performs its oldest input, and performing a command frame is `exec` of its decoding. -/
theorem stepRunsTheDecodedCommand : Obligations.StepRunsTheDecodedCommand :=
  fun _ _ _ hlegal hinput => step_eq_perform hlegal hinput

/-- A step of a legal configuration with no input pending answers the same state. -/
theorem step_of_no_input {s : State} (hlegal : s.cfg.legal = true) (hinput : s.input = []) : step s = .next s := by
  simp only [step, hlegal, if_true, performNext, hinput]

/-- Settles O7: with the queue empty there is nothing to perform. -/
theorem blockWaitsForTheHost : Obligations.BlockWaitsForTheHost := fun _ => step_of_no_input

end Sys2Proof.Machine
end

section
/-! O8: the response of every command (R51, R95, R96). What may be answered is said of outcomes, and follows
their parts. -/

namespace Sys2Proof.Machine

/-- If the outcome is a next state, its response has a status of `statuses`, and `n` result bytes on success and none
otherwise (R95). -/
def AnswersWithin (statuses : List Status) (n : Nat) (o : Host.Outcome State Fault Refusal) : Prop :=
  ∀ t, o = .next t → ∃ r, t.rsp = some r ∧ r.status ∈ statuses ∧
    (r.status ≠ .success → r.results = []) ∧ (r.status = .success → r.results.length = n)

theorem answersWithin_raise {statuses : List Status} {n : Nat} {st : Status} (s : State) (hmem : st ∈ statuses)
    (herror : st ≠ .success) : AnswersWithin statuses n (raise st s) := by
  rintro _ ⟨⟩
  exact ⟨_, rfl, hmem, fun _ => rfl, fun hsuccess => absurd hsuccess herror⟩

theorem answersWithin_finish {statuses : List Status} {n : Nat} {results : List Byte} (s : State)
    (hmem : .success ∈ statuses) (hlen : results.length = n) :
    AnswersWithin statuses n (finish .success results s) := by
  rintro _ ⟨⟩
  exact ⟨_, rfl, hmem, fun hne => absurd rfl hne, fun _ => hlen⟩

theorem answersWithin_andThen {statuses : List Status} {n : Nat} {o : Host.Outcome State Fault Refusal}
    {k : State → Host.Outcome State Fault Refusal} (h : ∀ u, o = .next u → AnswersWithin statuses n (k u)) :
    AnswersWithin statuses n (andThen o k) := fun t ht => by
  obtain ⟨u, hu, hk⟩ := andThen_eq_next.mp ht
  exact h u hu t hk

/-! ### The commands with more than one answer -/

theorem execInit_answers (s : State) : AnswersWithin [.success] 0 (execInit s) := by
  unfold execInit
  split
  · exact answersWithin_finish _ (by simp) rfl
  · exact answersWithin_andThen fun u _ => answersWithin_finish u (by simp) rfl

theorem execRegisterCb_answers (type en : Byte) (s : State) :
    AnswersWithin [.success, .unknownType] 0 (execRegisterCb type en s) := by
  unfold execRegisterCb
  split
  · exact answersWithin_raise _ (by simp) (by simp)
  · exact answersWithin_finish _ (by simp) rfl

theorem execCrc16_answers (l start length : Half) (data : List Byte) (s : State) :
    AnswersWithin [.success, .badRange] 2 (execCrc16 l start length data s) := by
  unfold execCrc16
  split
  · exact answersWithin_raise _ (by simp) (by simp)
  · exact answersWithin_finish _ (by simp) rfl

@[simp] theorem finalFrame_length (rst msg : Half) (len : Nat) (txbuf : List Byte) :
    (finalFrame rst msg len txbuf).length = txbuf.length := by
  simp [finalFrame, stampChecksum, stampCounters]

/-- FINALIZE puts out TX_LEN and the whole buffer, which advancing the counters leaves as long as it was (R135). -/
theorem execFinalize_answers (s : State) :
    AnswersWithin [.success, .notInitialized, .noMessage] (1 + s.txbuf.length) (execFinalize s) := by
  unfold execFinalize
  split
  · exact answersWithin_raise _ (by simp) (by simp)
  · split
    · exact answersWithin_raise _ (by simp) (by simp)
    · refine answersWithin_andThen fun u hu => answersWithin_finish _ (by simp) ?_
      obtain ⟨_, _, _, _, _, hadvance⟩ := afterAdvance_frame s.beginCommand
      rw [eq_afterAdvance_of_advanceOwnCounters hu, hadvance]
      simp [Nat.add_comm]

theorem execDispatch_answers (s : State) : AnswersWithin [.success, .noMessage] 0 (execDispatch s) := by
  unfold execDispatch
  split
  · exact answersWithin_raise _ (by simp) (by simp)
  · exact answersWithin_finish _ (by simp) rfl

/-- The statuses of PROCESS (R96, R158). -/
def processStatuses : List Status :=
  [.success, .notInitialized, .invalidBuffer, .wrongDestination, .unknownType, .checksumMismatch,
    .atMaxAddresses, .invalidResetCounter, .invalidMessageCounter]

/-- A freshness outcome that does not accept is one that PROCESS may answer (R157, R179). -/
theorem rejecting_status_mem_processStatuses {row : Freshness} (h : row.status.accepting = false) :
    row.status ∈ processStatuses ∧ row.status ≠ .success := by
  cases row with
  | add | restart _ | advance _ => cases h
  | full | stale | replay => exact ⟨by decide, by decide⟩

theorem judge_answers (f : List Byte) (row : Freshness) (s : State) :
    AnswersWithin processStatuses 0 (judge f row.status s) := by
  unfold judge
  split
  · exact answersWithin_raise _ (by decide) (by decide)
  · split
    · exact answersWithin_raise _ (by decide) (by decide)
    · split
      · exact answersWithin_finish _ (by decide) rfl
      · next hreject =>
        obtain ⟨hmem, herror⟩ := rejecting_status_mem_processStatuses (Bool.eq_false_iff.mpr hreject)
        exact answersWithin_raise _ hmem herror

theorem processFrame_answers (f : List Byte) (s : State) : AnswersWithin processStatuses 0 (processFrame f s) := by
  unfold processFrame
  split
  · exact answersWithin_raise _ (by decide) (by decide)
  · split
    · exact answersWithin_raise _ (by decide) (by decide)
    · split
      · exact answersWithin_raise _ (by decide) (by decide)
      · exact answersWithin_andThen fun u _ => judge_answers f _ _

/-- Settles O8, command by command. -/
theorem everyCommandAnswersOnce : Obligations.EveryCommandAnswersOnce := by
  intro i s t h
  cases i with
  | init => exact execInit_answers s t h
  | registerCb type en => exact execRegisterCb_answers type en s t h
  | crc16 l start length data => exact execCrc16_answers l start length data s t h
  | finalize => exact execFinalize_answers s t h
  | dispatch => exact execDispatch_answers s t h
  | process | wireBeacon | wireSetIndividual | wireSetTwoIndividuals | wireSetThreeIndividuals
  | wireDeviceStatusReserved => exact processFrame_answers _ _ t h
  | buildBeacon | buildSet1 | buildSet2 | buildSet3 | queryRxSrc | queryRxDst | queryRxType | queryRxRst | queryRxMsg
  | queryRxValidation => exact answersWithin_finish _ (by simp) rfl t h
  | illegalCommand => exact answersWithin_raise _ (by simp) (by decide) t h

end Sys2Proof.Machine
end

section
/-! The storage transactions of every command, said once: which list a command that completes has issued, and that no
other end than a silent agent comes of them (R53, R54, R57, R62). O12, O13 and O14 rest on it. -/

namespace Sys2Proof.Machine

/-! ### The buffer of a PROCESS command -/

/-- The wire buffer of the rows that are PROCESS commands (R80, R150). -/
def processBuffer : Instr → Option (List Byte)
  | .process frame => some frame
  | .wireBeacon h uptime chk pad => some (beaconFrame h uptime chk pad)
  | .wireSetIndividual h level a1 chk pad => some (set1Frame h level a1 chk pad)
  | .wireSetTwoIndividuals h level a1 a2 chk pad => some (set2Frame h level a1 a2 chk pad)
  | .wireSetThreeIndividuals h level a1 a2 a3 chk pad => some (set3Frame h level a1 a2 a3 chk pad)
  | .wireDeviceStatusReserved h rest => some (deviceStatusFrame h rest)
  | _ => none

theorem exec_of_processBuffer {i : Instr} {f : List Byte} (h : processBuffer i = some f) (s : State) :
    exec i s = processFrame f s.beginCommand := by
  cases i with
  | process | wireBeacon | wireSetIndividual | wireSetTwoIndividuals | wireSetThreeIndividuals
  | wireDeviceStatusReserved =>
    cases h
    rfl
  | _ => cases h

theorem isProcess_iff_processBuffer {i : Instr} : isProcess i = true ↔ ∃ f, processBuffer i = some f := by
  cases i <;> simp [isProcess, processBuffer]

/-! ### Which transactions a command issues -/

/-- The transactions of the comparator's row for frame `f` (R178). -/
def checkTxns (f : List Byte) (s : State) : List StTxn :=
  (classify (frameSrc f) (frameRst f) (frameMsg f) s).txns s.cfg s.peerCount (frameSrc f) (frameRst f)

/-- `Issues s i ts`: command `i` in state `s` may issue the transactions `ts`. -/
inductive Issues (s : State) : Instr → List StTxn → Prop
  /-- A command that ends before it reaches storage, or never does. -/
  | nothing (i : Instr) : Issues s i []
  /-- The first INIT (R200). -/
  | init : Issues s .init (initTxns s)
  /-- FINALIZE when the message counter overflows (R136). -/
  | finalize : Issues s .finalize (writeHalfTxns (ownRstOff s.cfg) (s.ownRst + 1) ++ [.commit])
  /-- PROCESS of a buffer that reaches the freshness check (R178). -/
  | check {i : Instr} {f : List Byte} (hbuffer : processBuffer i = some f) : Issues s i (checkTxns f s)

/-- State `t` has, of state `s`, the storage after the transactions `ts`, and `ts` on STO (R53, R62). -/
def StoredBy (ts : List StTxn) (s t : State) : Prop :=
  t.sto = ts ∧ t.storage = ts.foldl StTxn.store s.storage ∧ t.committed = commitFold s.storage s.committed ts

theorem afterFreshness_storedBy (f : List Byte) (s : State) :
    StoredBy (checkTxns f s) s (afterFreshness f (s.beginCommand.clearRx.loadHeader f)) := by
  obtain ⟨_, _, _, hjudged⟩ := judged_frame f (classify (frameSrc f) (frameRst f) (frameMsg f) s).status
    ((afterCheck (frameSrc f) (frameRst f) (frameMsg f) (s.beginCommand.clearRx.loadHeader f)).recordValidation
      (classify (frameSrc f) (frameRst f) (frameMsg f) s).status)
  obtain ⟨_, _, _, _, htable⟩ := updateTable_frame (frameSrc f) (frameRst f) (frameMsg f)
    (s.beginCommand.clearRx.loadHeader f) (classify (frameSrc f) (frameRst f) (frameMsg f) s)
  simp only [afterFreshness, State.loadHeader_rxSrc, State.loadHeader_rxRst, State.loadHeader_rxMsg, classify_loadHeader,
    hjudged]
  simp [StoredBy, afterCheck, classify_loadHeader, htable, afterTxns, checkTxns]

theorem afterAdvance_storedBy (s : State) : ∃ ts, Issues s .finalize ts ∧ StoredBy ts s (afterAdvance s.beginCommand) := by
  unfold afterAdvance
  split
  · exact ⟨_, .finalize, rfl, rfl, rfl⟩
  · exact ⟨_, .nothing _, rfl, rfl, rfl⟩

/-- A command that completes has issued the transactions of one of its cases, and storage is as they leave it. -/
theorem exec_storedBy {i : Instr} {s t : State} (h : exec i s = .next t) : ∃ ts, Issues s i ts ∧ StoredBy ts s t := by
  cases hbuffer : processBuffer i with
  | some f =>
    rw [exec_of_processBuffer hbuffer] at h
    rcases processFrame_cases h with ⟨-, rfl⟩ | ⟨-, -, rfl⟩ | ⟨-, -, -, rfl⟩ | ⟨-, -, -, hfresh⟩
    · exact ⟨_, .nothing i, rfl, rfl, rfl⟩
    · exact ⟨_, .nothing i, rfl, rfl, rfl⟩
    · exact ⟨_, .nothing i, rfl, rfl, rfl⟩
    · obtain rfl := eq_afterFreshness_of_checkFreshness hfresh
      exact ⟨_, .check hbuffer, afterFreshness_storedBy f s⟩
  | none =>
    have hproc : ¬ isProcess i = true := by simp [isProcess_iff_processBuffer, hbuffer]
    cases exec_effect h with
    | answered | registered | built => exact ⟨_, .nothing _, rfl, rfl, rfl⟩
    | initialized => exact ⟨_, .init, rfl, rfl, rfl⟩
    | finalized => exact afterAdvance_storedBy s
    | dispatched =>
      obtain ⟨_, haction⟩ := dispatchAction_frame s.beginCommand.consume
      rw [haction]
      exact ⟨_, .nothing _, rfl, rfl, rfl⟩
    | badMagic hproc' | misdirected _ hproc' | checked _ hproc' => exact absurd hproc' hproc

/-! ### What a command is stuck in -/

/-- A fault that the second part of a sequence cannot end in is the first part's. -/
theorem eq_fault_of_andThen {o : Host.Outcome State Fault Refusal} {k : State → Host.Outcome State Fault Refusal}
    {fault : Fault} (hk : ∀ u, k u ≠ .fault fault) (h : andThen o k = .fault fault) : o = .fault fault := by
  cases o with
  | next u => exact absurd h (hk u)
  | fault _ => exact h
  | refused _ => cases h

theorem execInit_eq_fault {s : State} {fault : Fault} (h : execInit s = .fault fault) :
    issue (initTxns s) (s.beginCommand.loadPeerTable.completeInit (nextOwnRst s)) = .fault fault := by
  unfold execInit at h
  split at h
  · cases h
  · exact eq_fault_of_andThen (fun u => by simp [finish]) h

theorem execFinalize_eq_fault {s : State} {fault : Fault} (h : execFinalize s = .fault fault) :
    issue (writeHalfTxns (ownRstOff s.cfg) (s.ownRst + 1) ++ [.commit])
      { s.beginCommand with ownMsg := 0x0000 + 1, ownRst := s.ownRst + 1 } = .fault fault := by
  unfold execFinalize at h
  split at h
  · cases h
  · split at h
    · cases h
    · have hadvance := eq_fault_of_andThen (fun u => by simp [emitFrame, finish]) h
      unfold advanceOwnCounters at hadvance
      split at hadvance
      · exact hadvance
      · cases hadvance

theorem processFrame_eq_fault {f : List Byte} {s : State} {fault : Fault}
    (h : processFrame f s.beginCommand = .fault fault) :
    issue (checkTxns f s) ((classify (frameSrc f) (frameRst f) (frameMsg f) s).updateTable (frameSrc f) (frameRst f)
      (frameMsg f) (s.beginCommand.clearRx.loadHeader f)) = .fault fault := by
  unfold processFrame at h
  split at h
  · cases h
  · split at h
    · cases h
    · split at h
      · cases h
      · have hcheck := eq_fault_of_andThen (fun u => by simp [judge_eq]) h
        rw [checkAndUpdate, State.loadHeader_rxSrc, State.loadHeader_rxRst, State.loadHeader_rxMsg,
          classify_loadHeader] at hcheck
        exact hcheck

/-- A command that does not complete is stuck in transactions of one of its cases (R232 (b)). -/
theorem exec_eq_fault {i : Instr} {s : State} {fault : Fault} (h : exec i s = .fault fault) :
    ∃ ts u, Issues s i ts ∧ issue ts u = .fault fault ∧ u.cfg = s.cfg := by
  cases hbuffer : processBuffer i with
  | some f =>
    rw [exec_of_processBuffer hbuffer] at h
    exact ⟨_, _, .check hbuffer, processFrame_eq_fault h, updateTable_cfg _ _ _ _ _⟩
  | none =>
    cases i with
    | init => exact ⟨_, _, .init, execInit_eq_fault h, rfl⟩
    | finalize => exact ⟨_, _, .finalize, execFinalize_eq_fault h, rfl⟩
    | registerCb | crc16 | dispatch =>
      simp only [exec, execRegisterCb, execCrc16, execDispatch] at h
      split at h <;> cases h
    | process | wireBeacon | wireSetIndividual | wireSetTwoIndividuals | wireSetThreeIndividuals
    | wireDeviceStatusReserved => cases hbuffer
    | _ => cases h

end Sys2Proof.Machine
end

section
/-! O12: a command that writes storage commits once, at its end (R63). -/

namespace Sys2Proof.Machine

/-- `ts` writes and commits nothing, or its one commit is its last transaction and comes after a write (R63). -/
def ClosedByCommit (ts : List StTxn) : Prop :=
  ((∀ off b, StTxn.write off b ∉ ts) ∧ .commit ∉ ts) ∨
  ∃ before, ts = before ++ [.commit] ∧ .commit ∉ before ∧ ∃ off b, StTxn.write off b ∈ before

theorem commit_not_mem_writeHalfTxns (off : Nat) (v : Half) : StTxn.commit ∉ writeHalfTxns off v := by
  simp [writeHalfTxns]

theorem hi_write_mem_writeHalfTxns (off : Nat) (v : Half) : .write off (hi v) ∈ writeHalfTxns off v :=
  List.mem_cons_self

theorem initTxns_closedByCommit (s : State) : ClosedByCommit (initTxns s) :=
  .inr ⟨_, rfl, by simp [readHalfTxns, writeHalfTxns],
    _, _, List.mem_append_right _ (hi_write_mem_writeHalfTxns _ (nextOwnRst s))⟩

theorem Freshness.txns_closedByCommit (row : Freshness) (c : Config) (n : Byte) (a r : Half) :
    ClosedByCommit (row.txns c n a r) := by
  cases row with
  | add =>
    refine .inr ⟨writeHalfTxns (peerAddrOff c n.toNat) a ++ writeHalfTxns (peerRstOff c n.toNat) r ++
      [.write (countOff c) (n + 1)], by simp [Freshness.txns], by simp [writeHalfTxns], countOff c, n + 1, by simp⟩
  | restart i => exact .inr ⟨_, rfl, commit_not_mem_writeHalfTxns _ _, _, _, hi_write_mem_writeHalfTxns _ _⟩
  | full | stale | advance _ | replay => exact .inl (by simp [Freshness.txns])

theorem Issues.closedByCommit {s : State} {i : Instr} {ts : List StTxn} (h : Issues s i ts) : ClosedByCommit ts := by
  cases h with
  | nothing => exact .inl (by simp)
  | init => exact initTxns_closedByCommit s
  | finalize => exact .inr ⟨_, rfl, commit_not_mem_writeHalfTxns _ _, _, _, hi_write_mem_writeHalfTxns _ _⟩
  | check => exact Freshness.txns_closedByCommit _ _ _ _ _

/-- Settles O12: the transactions a command may issue are closed by a commit, and storage is as they leave it. -/
theorem commitClosesEveryWritingCommand : Obligations.CommitClosesEveryWritingCommand := by
  intro i s t h
  obtain ⟨ts, hissues, rfl, hstorage, hcommitted⟩ := exec_storedBy h
  rw [hstorage, hcommitted]
  refine ⟨rfl, ?_⟩
  rcases hissues.closedByCommit with ⟨hwrite, hcommit⟩ | ⟨before, hts, hcommit, off, b, hwrite⟩
  · exact ⟨fun ⟨off, b, hmem⟩ => absurd hmem (hwrite off b),
      fun _ => ⟨hcommit, foldl_store_of_no_write _ hwrite, commitFold_of_no_commit _ _ _ hcommit⟩⟩
  · rw [hts]
    exact ⟨fun _ => ⟨before, rfl, hcommit, by simp only [commitFold_commit, foldl_store_commit]⟩,
      fun hnone => absurd (List.mem_append_left _ hwrite) (hnone off b)⟩

end Sys2Proof.Machine
end

section
/-! O13: every offset a command forms is backed (R54). -/

namespace Sys2Proof.Machine

theorem readHalfTxns_inRange {c : Config} {off : Nat} (hlo : c.storageBase ≤ off)
    (hhi : off + 1 < c.storageBase + (4 * c.peerCapacity + 3)) : ∀ x ∈ readHalfTxns off, x.inRange c = true := by
  simp only [readHalfTxns, List.forall_mem_cons, StTxn.inRange, backed_iff, List.not_mem_nil, false_implies, implies_true,
    and_true]
  omega

theorem initTxns_inRange (s : State) : ∀ x ∈ initTxns s, x.inRange s.cfg = true := by
  rw [initTxns, List.append_assoc]
  refine List.forall_mem_append.mpr ⟨List.forall_mem_append.mpr ⟨List.forall_mem_append.mpr ⟨?_, ?_⟩, ?_⟩,
    ownRstTxns_inRange s.cfg _⟩
  · simp [StTxn.inRange, backed_iff, countOff]
  · intro x hx
    obtain ⟨i, hi, hx⟩ := List.mem_flatMap.mp hx
    have hiP : i < s.cfg.peerCapacity := Nat.lt_of_lt_of_le (List.mem_range.mp hi) (loadedCount_le s)
    rcases List.mem_append.mp hx with haddr | hrst
    · exact readHalfTxns_inRange (by simp only [peerAddrOff]; omega) (by simp only [peerAddrOff]; omega) x haddr
    · exact readHalfTxns_inRange (by simp only [peerRstOff]; omega) (by simp only [peerRstOff]; omega) x hrst
  · exact readHalfTxns_inRange (by simp only [ownRstOff]; omega) (by simp only [ownRstOff]; omega)

theorem Issues.inRange {s : State} {i : Instr} {ts : List StTxn} (hcount : s.peerCount.toNat ≤ s.cfg.peerCapacity)
    (h : Issues s i ts) : ∀ x ∈ ts, x.inRange s.cfg = true := by
  cases h with
  | nothing => simp
  | init => exact initTxns_inRange s
  | finalize => exact ownRstTxns_inRange s.cfg _
  | check => exact freshness_txns_inRange hcount

/-- In-range transactions fault for a silent agent only. -/
theorem issue_ne_unbacked {ts : List StTxn} {s : State} (h : ∀ x ∈ ts, x.inRange s.cfg = true) :
    issue ts s ≠ .fault .storageOffsetUnbacked := by
  rcases issue_of_inRange h with hnext | ⟨-, -, hsilent⟩
  · simp [hnext]
  · simp [hsilent]

/-- A transaction in range that has an offset has a backed one. -/
theorem backed_of_inRange {c : Config} {ts : List StTxn} (h : ∀ x ∈ ts, x.inRange c = true) {off : Nat}
    (hoff : .read off ∈ ts ∨ ∃ b, StTxn.write off b ∈ ts) : backed c off = true := by
  rcases hoff with hread | ⟨b, hwrite⟩
  · exact h _ hread
  · exact h _ hwrite

/-- Settles O13: the transactions a command may issue are in range, which rules out the fault and bounds the offsets. -/
theorem storageOffsetsStayInTheImage : Obligations.StorageOffsetsStayInTheImage := by
  refine ⟨fun s hpast => ?_, fun i s hcount => ⟨fun hfault => ?_, fun t ht off hoff => ?_⟩⟩
  · have hillegal : ¬ s.cfg.legal = true := fun hlegal => by
      obtain ⟨-, -, -, -, hend, -⟩ := (Config.legal_iff s.cfg).mp hlegal
      omega
    rw [step, if_neg hillegal]
  · obtain ⟨ts, u, hissues, hissue, hcfg⟩ := exec_eq_fault hfault
    exact issue_ne_unbacked (hcfg ▸ hissues.inRange hcount) hissue
  · obtain ⟨ts, hissues, rfl, -, -⟩ := exec_storedBy ht
    obtain ⟨hlo, hhi⟩ := (backed_iff s.cfg off).mp (backed_of_inRange (hissues.inRange hcount) hoff)
    refine ⟨hlo, by omega, fun hlegal => ?_⟩
    obtain ⟨-, -, -, -, hend, -⟩ := (Config.legal_iff s.cfg).mp hlegal
    omega

end Sys2Proof.Machine
end

section
/-! O14: the bytes of storage a command writes (R57, R136, R178, R200). -/

namespace Sys2Proof.Machine

theorem get_storage_of_not_written {ts : List StTxn} {s t : State} {a : Nat} (h : StoredBy ts s t)
    (hts : ∀ off b, StTxn.write off b ∈ ts → off ≠ a) : Memory.get t.storage a = Memory.get s.storage a := by
  obtain ⟨-, hstorage, -⟩ := h
  rw [hstorage, Memory.get_store_of_not_written _ hts]

/-- INIT and FINALIZE write the two bytes of the own reset counter only (R136, R200). -/
theorem Issues.write_mem_of_init_or_finalize {s : State} {i : Instr} {ts : List StTxn} (h : Issues s i ts)
    (hi : i = .init ∨ i = .finalize) {off : Nat} {b : Byte} (hw : .write off b ∈ ts) :
    off = ownRstOff s.cfg ∨ off = ownRstOff s.cfg + 1 := by
  cases h with
  | nothing => cases hw
  | init => exact write_mem_writeHalfTxns (v := nextOwnRst s) (by simpa [initTxns, readHalfTxns] using hw)
  | finalize => exact write_mem_writeHalfTxns (v := s.ownRst + 1) (by simpa using hw)
  | check hbuffer => rcases hi with rfl | rfl <;> cases hbuffer

theorem get_storage_of_init_or_finalize {i : Instr} {s t : State} (hi : i = .init ∨ i = .finalize)
    (h : exec i s = .next t) {a : Nat} (hhi : a ≠ ownRstOff s.cfg) (hlo : a ≠ ownRstOff s.cfg + 1) :
    Memory.get t.storage a = Memory.get s.storage a := by
  obtain ⟨ts, hissues, hstored⟩ := exec_storedBy h
  refine get_storage_of_not_written hstored fun off b hw => ?_
  have := hissues.write_mem_of_init_or_finalize hi hw
  omega

/-- Settles O14, by the writes among the transactions a command may issue. -/
theorem storedBytesAndNoOthers : Obligations.StoredBytesAndNoOthers := by
  intro s t
  refine ⟨fun h a => get_storage_of_init_or_finalize (.inl rfl) h, fun h a => get_storage_of_init_or_finalize (.inr rfl) h,
    fun f h a ha => ?_, fun i hinit hfin hproc h a => ?_⟩
  · obtain ⟨ts, hissues, hstored⟩ := exec_storedBy h
    refine get_storage_of_not_written hstored fun off b hw => ?_
    cases hissues with
    | nothing => cases hw
    | check hbuffer =>
      cases hbuffer
      rw [checkTxns] at hw
      cases hrow : classify (frameSrc f) (frameRst f) (frameMsg f) s with
      | add =>
        simp only [hrow] at ha hw
        have := write_mem_txns_add hw
        omega
      | restart i =>
        simp only [hrow] at ha hw
        have := write_mem_txns_restart hw
        omega
      | full | stale | advance _ | replay =>
        rw [hrow] at hw
        cases hw
  · obtain ⟨ts, hissues, hstored⟩ := exec_storedBy h
    refine get_storage_of_not_written hstored fun off b hw => ?_
    cases hissues with
    | nothing => cases hw
    | init => exact absurd rfl hinit
    | finalize => exact absurd rfl hfin
    | check hbuffer => exact absurd (isProcess_iff_processBuffer.mpr ⟨_, hbuffer⟩) (by simp [hproc])

end Sys2Proof.Machine
end

section
/-! O16: the peer table across a power cycle and the INIT after it (R58, R180, R201, R244). -/

namespace Sys2Proof.Machine

/-! ### INIT reads the table back -/

/-- The first INIT completes when the storage agent answers: it reads and writes backed offsets only (R54, R200). -/
theorem exec_init_of_not_done {s : State} (hinit : s.initDone = false) (ha : s.agentAnswers = true) :
    exec .init s = .next (afterInit s) := by
  have hissue : issue (initTxns s) (s.beginCommand.loadPeerTable.completeInit (nextOwnRst s)) =
      .next (afterTxns (initTxns s) (s.beginCommand.loadPeerTable.completeInit (nextOwnRst s))) :=
    issue_completes (fun _ => ha) (initTxns_inRange s)
  rw [exec, execInit, if_neg (by simp [hinit]), hissue]
  rfl

theorem State.Inv.loadedCount_eq {s : State} (h : s.Inv) (hinit : s.initDone = true) :
    loadedCount s = s.peerCount.toNat := by
  rw [loadedCount]
  rcases (h.imaged hinit).1 with hstored | ⟨hzero, hgt⟩
  · rw [hstored, if_neg (Nat.not_lt.mpr h.count_le)]
  · rw [hzero, if_pos hgt]
    rfl

/-- A list of `n` entries, zero from `c` on, is given by what its entries below `c` are. -/
theorem map_range_eq_of_getD {l : List Half} {n c : Nat} {f : Nat → Half} (hlen : l.length = n)
    (hf : ∀ i, i < c → f i = l.getD i 0) (hzero : ∀ v ∈ l.drop c, v = 0) :
    ((List.range n).map fun i => if i < c then f i else 0) = l := by
  refine List.ext_getElem (by simp [hlen]) fun i _ hi => ?_
  rw [List.getElem_map, List.getElem_range]
  split
  · next hic => rw [hf i hic, List.getD_eq_getElem _ _ hi]
  · next hic => exact (hzero _ (List.mem_drop_iff_getElem.mpr ⟨i - c, by omega, by congr 1; omega⟩)).symm

/-- What INIT loads from the image of a block in service is that block's own table (R35 (c), R201). -/
theorem State.Inv.loadPeerTable_eq {s : State} (h : s.Inv) (hinit : s.initDone = true) :
    s.loadPeerTable.peerCount = s.peerCount ∧ s.loadPeerTable.peerAddr = s.peerAddr ∧
      s.loadPeerTable.peerRst = s.peerRst := by
  obtain ⟨-, hentry, -⟩ := h.imaged hinit
  obtain ⟨haddrLen, hrstLen, -⟩ := h.peer_lengths
  obtain ⟨haddrZero, hrstZero, -⟩ := h.peer_unused
  rw [State.loadPeerTable_peerCount, State.loadPeerTable_peerAddr, State.loadPeerTable_peerRst, h.loadedCount_eq hinit]
  exact ⟨by simp, map_range_eq_of_getD haddrLen (fun i hi => (hentry i hi).1) haddrZero,
    map_range_eq_of_getD hrstLen (fun i hi => (hentry i hi).2) hrstZero⟩

/-! ### The two steps -/

/-- With nothing uncommitted a power cycle keeps the storage content (R55, R240). -/
theorem step_powerCycle_of_committed {s : State} {rest : List Input} (hlegal : s.cfg.legal = true)
    (hinput : s.input = .powerCycle :: rest) (hcommitted : s.committed = s.storage) :
    step s = .next (State.restart s.storage { s with input := rest }) := by
  rw [step_eq_perform hlegal hinput, perform, State.powerCycle, hcommitted, powerLossContent_self]

/-- A step on the frame of INIT, in a block that has not had one (R200). -/
theorem step_init_of_not_done {s : State} {rest : List Input} (hlegal : s.cfg.legal = true)
    (hinput : s.input = .command [0x01] :: rest) (hinit : s.initDone = false) (ha : s.agentAnswers = true) :
    step s = .next (afterInit { s with input := rest }) :=
  (stepRunsTheDecodedCommand s [0x01] rest hlegal hinput).trans
    (exec_init_of_not_done (s := { s with input := rest }) hinit ha)

/-- Settles O16: the power cycle keeps the image, and INIT loads the table the image holds. -/
theorem peerTableSurvivesPowerCycle : Obligations.PeerTableSurvivesPowerCycle := by
  intro s rest h hlegal hinit ha hinput
  obtain ⟨hcount, haddr, hrst⟩ := h.loadPeerTable_eq hinit
  obtain ⟨-, -, hown⟩ := h.imaged hinit
  exact ⟨_, _, step_powerCycle_of_committed hlegal hinput h.all_committed,
    step_init_of_not_done (s := State.restart s.storage { s with input := .command [0x01] :: rest }) hlegal rfl rfl ha,
    rfl, rfl, hcount, haddr, hrst, rfl, congrArg (· + 1) hown, rfl⟩

end Sys2Proof.Machine
end

section
/-! O1, O2, O3, O50: the decoder and the encoder are inverse to each other on the well-formed commands for every buffer
size, and every byte string is the frame of one of them (R80, R92 to R94). -/

namespace Sys2Proof.Machine

@[simp] theorem halfBytes_be16 (a b : Byte) : halfBytes (be16 a b) = [a, b] := by
  rw [halfBytes, hi_be16, lo_be16]

@[simp] theorem headerBytes_length (h : WireHeader) (type : Byte) : (headerBytes h type).length = 10 := rfl

/-- A type byte that names a supported type is that type's code (R83). -/
theorem MsgType.eq_code_of_ofByte {t : Byte} {m : MsgType} (h : MsgType.ofByte t = some m) : t = m.code := by
  unfold MsgType.ofByte at h
  repeat' split at h
  all_goals cases h
  all_goals assumption

theorem isWireRow_iff (f : List Byte) : isWireRow f = true ↔ 10 ≤ f.length ∧ byteAt f 0 = magic ∧
    ((∃ m : MsgType, byteAt f 9 = m.code) ∨ byteAt f 9 = deviceStatusCode) := by
  have hsupported : (MsgType.ofByte (byteAt f 9)).isSome = true ↔ ∃ m : MsgType, byteAt f 9 = m.code := by
    rw [Option.isSome_iff_exists]
    exact exists_congr fun m => ⟨MsgType.eq_code_of_ofByte, fun h => by rw [h, MsgType.ofByte_code]⟩
  simp [isWireRow, hsupported, and_assoc]

/-! ### The buffer of a PROCESS command is read back -/

theorem decodeProcess_of_not_isWireRow {f : List Byte} (h : isWireRow f = false) : decodeProcess f = .process f := by
  revert h
  fun_cases decodeProcess f <;> simp [isWireRow, MsgType.ofByte_code]

/-- A PROCESS buffer decodes to the row it is the buffer of (R80, R84 to R88). -/
theorem decodeProcess_processBuffer {b : Nat} {i : Instr} {f : List Byte} (hbuffer : processBuffer i = some f)
    (hwf : wellFormed b i = true) : decodeProcess f = i := by
  cases i with
  | process frame =>
    cases hbuffer
    obtain ⟨-, hrow⟩ : f.length = b ∧ isWireRow f = false := by simpa [wellFormed] using hwf
    exact decodeProcess_of_not_isWireRow hrow
  | wireBeacon | wireSetIndividual | wireSetTwoIndividuals | wireSetThreeIndividuals =>
    cases hbuffer
    simp [decodeProcess, beaconFrame, set1Frame, set2Frame, set3Frame, frameBytes, headerBytes, beaconPayload,
      set1Payload, set2Payload, set3Payload, MsgType.code, wordBytes, halfBytes, be32_wordBytes]
  | wireDeviceStatusReserved =>
    cases hbuffer
    simp [decodeProcess, deviceStatusFrame, headerBytes, deviceStatusCode, MsgType.code]
  | _ => cases hbuffer

/-- The buffer of a well-formed PROCESS row fills the wire buffer (20_memory R52). -/
theorem processBuffer_length {b : Nat} {i : Instr} {f : List Byte} (hbuffer : processBuffer i = some f)
    (hwf : wellFormed b i = true) : f.length = b := by
  cases i with
  | process frame =>
    cases hbuffer
    obtain ⟨hlen, -⟩ : f.length = b ∧ isWireRow f = false := by simpa [wellFormed] using hwf
    exact hlen
  | wireBeacon | wireSetIndividual | wireSetTwoIndividuals | wireSetThreeIndividuals | wireDeviceStatusReserved =>
    cases hbuffer
    rw [← beq_iff_eq.mp hwf]
    simp [beaconFrame, set1Frame, set2Frame, set3Frame, deviceStatusFrame, frameBytes, beaconPayload, set1Payload,
      set2Payload, set3Payload, MsgType.frameLen_eq, MsgType.payloadLen, headerLen]
    omega
  | _ => cases hbuffer

theorem encode_of_processBuffer {i : Instr} {f : List Byte} (hbuffer : processBuffer i = some f) :
    encode i = 0x20 :: f := by
  cases i with
  | process | wireBeacon | wireSetIndividual | wireSetTwoIndividuals | wireSetThreeIndividuals
  | wireDeviceStatusReserved =>
    cases hbuffer
    rfl
  | _ => cases hbuffer

theorem decode_encode_of_processBuffer {b : Nat} {i : Instr} {f : List Byte} (hbuffer : processBuffer i = some f)
    (hwf : wellFormed b i = true) : decode b (encode i) = i :=
  calc decode b (encode i) = decode b (0x20 :: f) := by rw [encode_of_processBuffer hbuffer]
    _ = decodeProcess f := by simp [decode, decodeOperands, processBuffer_length hbuffer hwf]
    _ = i := decodeProcess_processBuffer hbuffer hwf

/-! ### Illegal frames -/

/-- Operands are read from frames of their opcode's length only (R94). -/
theorem commandLength_of_decodeOperands {b : Nat} {op : Byte} {args : List Byte} {i : Instr}
    (h : decodeOperands b op args = some i) : commandLength b (op :: args) = some (op :: args).length := by
  revert h
  fun_cases decodeOperands b op args
  all_goals intro h; cases h
  all_goals subst op
  all_goals simp [commandLength, *] <;> omega

theorem decode_of_commandLength_ne {b : Nat} {frame : List Byte} (h : commandLength b frame ≠ some frame.length) :
    decode b frame = .illegalCommand frame := by
  cases frame with
  | nil => rfl
  | cons op args =>
    have hnone : decodeOperands b op args = none :=
      Option.eq_none_iff_forall_ne_some.mpr fun i hi => h (commandLength_of_decodeOperands hi)
    rw [decode, hnone, Option.getD_none]

/-! ### Decoding what was encoded -/

theorem decode_encode {b : Nat} {i : Instr} (hwf : wellFormed b i = true) : decode b (encode i) = i := by
  cases i with
  | init | registerCb | finalize | dispatch | queryRxSrc | queryRxDst | queryRxType | queryRxRst | queryRxMsg
  | queryRxValidation => rfl
  | buildBeacon => simp [encode, decode, decodeOperands, wordBytes, be32_wordBytes]
  | buildSet1 | buildSet2 | buildSet3 => simp [encode, decode, decodeOperands, halfBytes]
  | crc16 l start length data =>
    have hdata : data.length = l.toNat := beq_iff_eq.mp hwf
    simp [encode, decode, decodeOperands, halfBytes, hdata]
  | process | wireBeacon | wireSetIndividual | wireSetTwoIndividuals | wireSetThreeIndividuals
  | wireDeviceStatusReserved => exact decode_encode_of_processBuffer rfl hwf
  | illegalCommand => exact decode_of_commandLength_ne (bne_iff_ne.mp hwf)

/-- Settles O1, command by command: the PROCESS rows go through their wire buffer, an illegal frame through its
length. -/
theorem decodeOfEncodeIsTheCommand : Obligations.DecodeOfEncodeIsTheCommand := fun _ _ _ => decode_encode

/-! ### Every frame is the encoding of a command -/

/-- `frame` is the frame of some command that is well formed for `b`-byte wire buffers. -/
def IsEncoding (b : Nat) (frame : List Byte) : Prop := ∃ i, wellFormed b i = true ∧ encode i = frame

theorem exists_headerBytes_append {f : List Byte} (hlen : 10 ≤ f.length) (hmagic : byteAt f 0 = magic) :
    ∃ h rest, f = headerBytes h (byteAt f 9) ++ rest := by
  obtain ⟨n, hn⟩ := Nat.exists_eq_add_of_le' hlen
  match f, hn with
  | m :: s1 :: s0 :: d1 :: d0 :: r1 :: r0 :: g1 :: g0 :: t :: rest, _ =>
    obtain rfl : m = magic := hmagic
    exact ⟨⟨be16 s1 s0, be16 d1 d0, be16 r1 r0, be16 g1 g0⟩, rest, by simp [headerBytes]⟩

/-- With 20 bytes or more the buffer of a supported type holds its payload and checksum (R8, R81). -/
theorem isEncoding_supportedRow {n : Nat} (h : WireHeader) (m : MsgType) {rest : List Byte}
    (hlen : rest.length = n + 10) : IsEncoding (n + 20) (0x20 :: (headerBytes h m.code ++ rest)) := by
  cases m with
  | beacon =>
    exact match rest, hlen with
      | u3 :: u2 :: u1 :: u0 :: c1 :: c0 :: pad, hlen =>
        ⟨.wireBeacon h (be32 u3 u2 u1 u0) (be16 c1 c0) pad, beq_iff_eq.mpr (congrArg (· + 10) hlen),
          by simp [encode, beaconFrame, frameBytes, beaconPayload, wordBytes_be32]⟩
  | set1 =>
    exact match rest, hlen with
      | lv :: x1 :: x0 :: c1 :: c0 :: pad, hlen =>
        ⟨.wireSetIndividual h lv (be16 x1 x0) (be16 c1 c0) pad, beq_iff_eq.mpr (congrArg (· + 10) hlen),
          by simp [encode, set1Frame, frameBytes, set1Payload]⟩
  | set2 =>
    exact match rest, hlen with
      | lv :: x1 :: x0 :: y1 :: y0 :: c1 :: c0 :: pad, hlen =>
        ⟨.wireSetTwoIndividuals h lv (be16 x1 x0) (be16 y1 y0) (be16 c1 c0) pad,
          beq_iff_eq.mpr (congrArg (· + 10) hlen), by simp [encode, set2Frame, frameBytes, set2Payload]⟩
  | set3 =>
    exact match rest, hlen with
      | lv :: x1 :: x0 :: y1 :: y0 :: z1 :: z0 :: c1 :: c0 :: pad, hlen =>
        ⟨.wireSetThreeIndividuals h lv (be16 x1 x0) (be16 y1 y0) (be16 z1 z0) (be16 c1 c0) pad,
          beq_iff_eq.mpr (congrArg (· + 10) hlen), by simp [encode, set3Frame, frameBytes, set3Payload]⟩

theorem isEncoding_wireRow {b : Nat} (hb : 20 ≤ b) {f : List Byte} (hf : f.length = b) (hrow : isWireRow f = true) :
    IsEncoding b (0x20 :: f) := by
  obtain ⟨n, rfl⟩ := Nat.exists_eq_add_of_le' hb
  obtain ⟨hlen, hmagic, htype⟩ := (isWireRow_iff f).mp hrow
  obtain ⟨h, rest, hsplit⟩ := exists_headerBytes_append hlen hmagic
  have hrest : rest.length = n + 10 := by
    rw [hsplit, List.length_append, headerBytes_length] at hf
    omega
  rw [hsplit]
  rcases htype with ⟨m, hcode⟩ | hcode
  · rw [hcode]
    exact isEncoding_supportedRow h m hrest
  · rw [hcode]
    exact ⟨.wireDeviceStatusReserved h rest, by simp [wellFormed, headerLen, hrest], rfl⟩

theorem isEncoding_process {b : Nat} (hb : 20 ≤ b) {f : List Byte} (hf : f.length = b) :
    IsEncoding b (0x20 :: f) := by
  cases hrow : isWireRow f with
  | true => exact isEncoding_wireRow hb hf hrow
  | false => exact ⟨.process f, by simp [wellFormed, hf, hrow], rfl⟩

/-- A frame of its opcode's length is a legal command's: the length gives the shape of the operands (R93, R94). -/
theorem isEncoding_of_commandLength {b : Nat} (hb : 20 ≤ b) {frame : List Byte}
    (h : commandLength b frame = some frame.length) : IsEncoding b frame := by
  revert h
  fun_cases commandLength b frame
  all_goals intro h; clear * - h hb
  case case1 | case5 | case19 => cases h
  case case2 args => exact match args, h with | [], _ => ⟨.init, rfl, rfl⟩
  case case3 args => exact match args, h with | [t, e], _ => ⟨.registerCb t e, rfl, rfl⟩
  case case4 l1 l0 args =>
    have hlen : args.length = (be16 l1 l0).toNat + 4 := by
      simp only [List.length_cons, Option.some.injEq] at h
      omega
    exact match args, hlen with
      | s1 :: s0 :: n1 :: n0 :: data, hlen =>
        ⟨.crc16 (be16 l1 l0) (be16 s1 s0) (be16 n1 n0) data, by simpa [wellFormed] using hlen, by simp [encode]⟩
  case case6 args =>
    exact match args, h with
      | [u3, u2, u1, u0], _ => ⟨.buildBeacon (be32 u3 u2 u1 u0), rfl, by rw [encode, wordBytes_be32]⟩
  case case7 args =>
    exact match args, h with
      | [d1, d0, lv, x1, x0], _ => ⟨.buildSet1 (be16 d1 d0) lv (be16 x1 x0), rfl, by simp [encode]⟩
  case case8 args =>
    exact match args, h with
      | [d1, d0, lv, x1, x0, y1, y0], _ =>
        ⟨.buildSet2 (be16 d1 d0) lv (be16 x1 x0) (be16 y1 y0), rfl, by simp [encode]⟩
  case case9 args =>
    exact match args, h with
      | [d1, d0, lv, x1, x0, y1, y0, z1, z0], _ =>
        ⟨.buildSet3 (be16 d1 d0) lv (be16 x1 x0) (be16 y1 y0) (be16 z1 z0), rfl, by simp [encode]⟩
  case case10 args => exact match args, h with | [], _ => ⟨.finalize, rfl, rfl⟩
  case case11 args =>
    refine isEncoding_process hb ?_
    simp only [List.length_cons, Option.some.injEq] at h
    omega
  case case12 args => exact match args, h with | [], _ => ⟨.dispatch, rfl, rfl⟩
  case case13 args => exact match args, h with | [], _ => ⟨.queryRxSrc, rfl, rfl⟩
  case case14 args => exact match args, h with | [], _ => ⟨.queryRxDst, rfl, rfl⟩
  case case15 args => exact match args, h with | [], _ => ⟨.queryRxType, rfl, rfl⟩
  case case16 args => exact match args, h with | [], _ => ⟨.queryRxRst, rfl, rfl⟩
  case case17 args => exact match args, h with | [], _ => ⟨.queryRxMsg, rfl, rfl⟩
  case case18 args => exact match args, h with | [], _ => ⟨.queryRxValidation, rfl, rfl⟩

theorem isEncoding {b : Nat} (hb : 20 ≤ b) (frame : List Byte) : IsEncoding b frame := by
  by_cases hlen : commandLength b frame = some frame.length
  · exact isEncoding_of_commandLength hb hlen
  · exact ⟨.illegalCommand frame, bne_iff_ne.mpr hlen, rfl⟩

/-- Settles O2: a frame is the encoding of some well-formed command, which is the one it decodes to. -/
theorem encodeOfDecodeIsTheFrame : Obligations.EncodeOfDecodeIsTheFrame := by
  intro b frame hb
  obtain ⟨i, hwf, rfl⟩ := isEncoding hb frame
  rw [decode_encode hwf]
  exact ⟨rfl, hwf⟩

/-! ### Given frames -/

/-- Settles O3: each of the seven frames decodes by evaluation. -/
theorem workedCommandWordsDecode : Obligations.WorkedCommandWordsDecode :=
  ⟨rfl, rfl, rfl, rfl, rfl, rfl, rfl⟩

/-- Settles O50: the empty frame decodes to an illegal command, and a step answers it as it does any command frame. -/
theorem emptyFrameIsAnswered : Obligations.EmptyFrameIsAnswered :=
  ⟨fun _ => rfl, fun _ _ hlegal hinput => step_eq_perform hlegal hinput⟩

end Sys2Proof.Machine
end

section
/-! O33, O53, O54, O55: what the block puts out (R89, R95 to R98), and that what it takes in ends with the frame
(R89). -/

namespace Sys2Proof.Machine

/-! ### Status codes -/

/-- The statuses in the order of their codes (R96). -/
def statusTable : List Status :=
  [.none, .success, .addedNewAddress, .atMaxAddresses, .invalidResetCounter, .invalidMessageCounter, .invalidBuffer,
    .wrongDestination, .unknownType, .checksumMismatch, .notInitialized, .noMessage, .badRange, .illegalCommand]

theorem statusTable_getElem?_code (st : Status) : statusTable[st.code.toNat]? = some st := by
  cases st <;> rfl

/-- Settles O54: the code of a status is its place in the table, which the status can be read back from. -/
theorem statusCodesFollowTheTable : Obligations.StatusCodesFollowTheTable := by
  refine ⟨by decide, fun st st' => ⟨?_, fun hcode => ?_⟩⟩
  · obtain ⟨hlt, -⟩ := List.getElem?_eq_some_iff.mp (statusTable_getElem?_code st)
    exact Nat.le_of_lt_succ hlt
  · refine Option.some.inj ?_
    rw [← statusTable_getElem?_code st, hcode, statusTable_getElem?_code]

/-! ### FINALIZE -/

/-- FINALIZE answers an error, or puts out the built message with its counters advanced (R135). -/
theorem exec_finalize_cases {s t : State} (h : exec .finalize s = .next t) :
    (∃ st, st ≠ .success ∧ t = s.beginCommand.respond st []) ∨
    (s.txLen ≠ 0 ∧ t = afterEmit (afterAdvance s.beginCommand)) := by
  rw [exec, execFinalize] at h
  split at h
  · cases h
    exact .inl ⟨.notInitialized, by decide, rfl⟩
  · split at h
    · cases h
      exact .inl ⟨.noMessage, by decide, rfl⟩
    · next hlen =>
      obtain ⟨u, hu, hemit⟩ := andThen_eq_next.mp h
      obtain rfl := eq_afterAdvance_of_advanceOwnCounters hu
      cases hemit
      exact .inr ⟨hlen, rfl⟩

/-- What a successful FINALIZE answers: TX_LEN, then the buffer with counters and checksum stamped (R135). -/
theorem exec_finalize_results {s t : State} {results : List Byte} (h : exec .finalize s = .next t)
    (hrsp : t.rsp = some { status := .success, results := results }) :
    s.txLen ≠ 0 ∧ ∃ rst msg, results = s.txLen :: finalFrame rst msg s.txLen.toNat s.txbuf := by
  rcases exec_finalize_cases h with ⟨st, hne, rfl⟩ | ⟨hlen, rfl⟩
  · cases hrsp
    exact absurd rfl hne
  · obtain ⟨msg, rst, _, _, _, hadvance⟩ := afterAdvance_frame s.beginCommand
    rw [hadvance] at hrsp
    cases hrsp
    exact ⟨hlen, rst, msg, rfl⟩

/-- FINALIZE stamps bytes of the frame only: past the frame the buffer goes out as it is (R135, R137). -/
theorem byteAt_finalFrame_of_le (rst msg : Half) (txbuf : List Byte) {len k : Nat} (hlen : 9 ≤ len) (hk : len ≤ k) :
    byteAt (finalFrame rst msg len txbuf) k = byteAt txbuf k := by
  rw [finalFrame, stampChecksum, byteAt_setBytes, if_neg (by simp only [halfBytes_length]; omega), stampCounters,
    byteAt_setBytes, if_neg (by simp only [List.length_append, halfBytes_length]; omega)]

/-- The TX_LEN of a built message is the frame length of a supported type (R30). -/
theorem State.Inv.exists_frameLen {s : State} (h : s.Inv) (hlen : s.txLen ≠ 0) :
    ∃ m : MsgType, s.txLen.toNat = m.frameLen := by
  obtain ⟨m, -, hm⟩ := (Option.any_eq_true _ _).mp (h.tx_len.resolve_left hlen)
  refine ⟨m, ?_⟩
  rw [beq_iff_eq.mp hm]
  cases m <;> rfl

theorem State.Inv.byteAt_txbuf_eq_zero {s : State} (h : s.Inv) {k : Nat} (h3 : 3 ≤ k) (hk : s.txLen.toNat ≤ k) :
    byteAt s.txbuf k = 0x00 := by
  have hzero := forall_mem_eq_zero_iff.mp h.tx_padding (k - max 3 s.txLen.toNat)
  rwa [byteAt_drop, Nat.add_sub_cancel' (Nat.max_le.mpr ⟨h3, hk⟩)] at hzero

/-- The padding FINALIZE puts out is zero (R89). -/
theorem State.Inv.finalize_padding {s t : State} {len : Byte} {out : List Byte} (h : s.Inv)
    (hexec : exec .finalize s = .next t) (hrsp : t.rsp = some { status := .success, results := len :: out }) {k : Nat}
    (hk : len.toNat ≤ k) : byteAt out k = 0x00 := by
  obtain ⟨hbuilt, rst, msg, hresults⟩ := exec_finalize_results hexec hrsp
  obtain ⟨rfl, rfl⟩ := List.cons.inj hresults
  obtain ⟨m, hm⟩ := h.exists_frameLen hbuilt
  have hlen : 12 ≤ s.txLen.toNat := by rw [hm, m.frameLen_eq]; omega
  rw [byteAt_finalFrame_of_le rst msg s.txbuf (by omega) hk]
  exact h.byteAt_txbuf_eq_zero (by omega) hk

/-! ### The bytes of a frame that PROCESS reads -/

/-- Two buffers of one length have the same bytes below index `n`. -/
structure AgreeBelow (n : Nat) (f g : List Byte) : Prop where
  length_eq : f.length = g.length
  byteAt_eq : ∀ k, k < n → byteAt f k = byteAt g k

theorem AgreeBelow.mono {m n : Nat} {f g : List Byte} (h : AgreeBelow n f g) (hmn : m ≤ n) : AgreeBelow m f g :=
  ⟨h.length_eq, fun k hk => h.byteAt_eq k (Nat.lt_of_lt_of_le hk hmn)⟩

theorem AgreeBelow.take_eq {n : Nat} {f g : List Byte} (h : AgreeBelow n f g) : f.take n = g.take n :=
  take_eq_of_byteAt h.length_eq h.byteAt_eq

theorem AgreeBelow.halfAt_eq {n i : Nat} {f g : List Byte} (h : AgreeBelow n f g) (hi : i + 2 ≤ n) :
    halfAt f i = halfAt g i := by
  rw [halfAt, halfAt, h.byteAt_eq i (by omega), h.byteAt_eq (i + 1) (by omega)]

theorem AgreeBelow.loadHeader_eq {f g : List Byte} (h : AgreeBelow 10 f g) (s : State) :
    s.loadHeader f = s.loadHeader g := by
  simp only [State.loadHeader, frameSrc, frameDst, frameRst, frameMsg, frameType, h.halfAt_eq (i := 1) (by omega),
    h.halfAt_eq (i := 3) (by omega), h.halfAt_eq (i := 5) (by omega), h.halfAt_eq (i := 7) (by omega),
    h.byteAt_eq 9 (by omega)]

/-- The checksum comparison and the payload of type length `n` lie below index 10 + n + 2 (R80, R89). -/
theorem AgreeBelow.payload_eq {n : Nat} {f g : List Byte} (h : AgreeBelow (10 + n + 2) f g) :
    checksumOk f n = checksumOk g n ∧ framePayload f n = framePayload g n := by
  have htake : f.take (10 + n) = g.take (10 + n) := (h.mono (by omega)).take_eq
  refine ⟨?_, ?_⟩
  · simp only [checksumOk, crc16, frameChk, headerLen, List.drop_zero, htake, h.halfAt_eq (i := 10 + n) (by omega)]
  · simpa only [framePayload, headerLen, List.drop_take, Nat.add_sub_cancel_left] using congrArg (List.drop 10) htake

/-- PROCESS steps 5 to 8 read the payload and the checksum of the type only (R150). -/
theorem judged_congr {f g : List Byte} {v : Status} {s : State}
    (h : ∀ m, MsgType.ofByte s.rxType = some m → AgreeBelow (10 + m.payloadLen + 2) f g) :
    judged f v s = judged g v s := by
  unfold judged
  split
  · rfl
  · next m htype =>
    obtain ⟨hchk, hpayload⟩ := (h m htype).payload_eq
    simp only [State.stagePayload, hchk, hpayload]

theorem andThen_congr {o : Host.Outcome State Fault Refusal} {k k' : State → Host.Outcome State Fault Refusal}
    (h : ∀ u, o = .next u → k u = k' u) : andThen o k = andThen o k' := by
  cases o with
  | next u => exact h u rfl
  | fault _ => rfl
  | refused _ => rfl

theorem checkAndUpdate_rxType {a r m : Half} {s t : State} (h : checkAndUpdate a r m s = .next t) :
    t.rxType = s.rxType := by
  obtain ⟨_, _, _, _, _, _, _, hframe⟩ := afterCheck_frame a r m s
  rw [eq_afterCheck_of_checkAndUpdate h, hframe]

/-- PROCESS of buffers with one header that agree, when the type is known, on the frame of the type (R89). -/
theorem processFrame_congr {f g : List Byte} (hheader : AgreeBelow 10 f g)
    (hframe : ∀ m, MsgType.ofByte (byteAt f 9) = some m → AgreeBelow (10 + m.payloadLen + 2) f g) (s : State) :
    processFrame f s = processFrame g s := by
  have hfresh : checkFreshness f (s.clearRx.loadHeader g) = checkFreshness g (s.clearRx.loadHeader g) := by
    refine andThen_congr fun u hu => ?_
    have htype : u.rxType = byteAt f 9 := (checkAndUpdate_rxType hu).trans (hheader.byteAt_eq 9 (by omega)).symm
    rw [judge_eq, judge_eq, judged_congr]
    exact fun m hm => hframe m (htype ▸ hm)
  have hdst : frameDst f = frameDst g := hheader.halfAt_eq (by omega)
  rw [processFrame, processFrame, hheader.byteAt_eq 0 (by omega), hdst, hheader.loadHeader_eq, hfresh]

/-- Settles O33: past its frame a buffer goes out as the invariant has it, zero, and no step of PROCESS reads it. -/
theorem paddingIsIgnored : Obligations.PaddingIsIgnored := by
  refine ⟨fun s t len out h _ hexec hrsp k hk => h.finalize_padding hexec hrsp hk, fun f g s _ hlen hagree => ?_⟩
  have hframe : ∀ m, MsgType.ofByte (byteAt f 9) = some m → AgreeBelow (10 + m.payloadLen + 2) f g := by
    intro m hm
    rw [hm] at hagree
    exact ⟨hlen.symm, hagree⟩
  refine processFrame_congr ?_ hframe s.beginCommand
  cases htype : MsgType.ofByte (byteAt f 9) with
  | some m => exact (hframe m htype).mono (by omega)
  | none =>
    rw [htype] at hagree
    exact ⟨hlen.symm, hagree⟩

/-! ### Responses -/

theorem Response.bytes_of_results_length_zero {r : Response} (hstatus : r.status = .success)
    (hlen : r.results.length = 0) : r.bytes = [0x01] := by
  rw [Response.bytes, hstatus, List.length_eq_zero_iff.mp hlen]
  rfl

/-- The checksum that a successful CRC16 answers (R122). -/
theorem exec_crc16_results {l start length : Half} {data : List Byte} {s t : State} {r : Response}
    (h : exec (.crc16 l start length data) s = .next t) (hr : t.rsp = some r) (hstatus : r.status = .success) :
    r.results = halfBytes (crc16 data start.toNat length.toNat) := by
  rw [exec, execCrc16] at h
  split at h
  · cases h
    cases hr
    cases hstatus
  · cases h
    cases hr
    rfl

/-- Settles O53: O8 gives the answer of an error and of the commands without results; the other commands answer as their
own lemmas or definitions say. -/
theorem responseBytesFollowTheTable : Obligations.ResponseBytesFollowTheTable := by
  intro i s t hB h
  obtain ⟨r, hr, -, herror, hlen⟩ := everyCommandAnswersOnce i s t h
  refine ⟨r, hr, fun hne => by rw [Response.bytes, herror hne], fun hsuccess => ?_⟩
  cases i with
  | crc16 l start length data =>
    refine ⟨_, rfl, ?_⟩
    rw [Response.bytes, hsuccess, exec_crc16_results h hr hsuccess]
    rfl
  | finalize =>
    obtain ⟨status, results⟩ := r
    obtain rfl : status = .success := hsuccess
    obtain ⟨-, rst, msg, rfl⟩ := exec_finalize_results h hr
    exact ⟨_, by rw [finalFrame_length, hB], rfl⟩
  | queryRxSrc | queryRxDst | queryRxRst | queryRxMsg | queryRxType | queryRxValidation =>
    cases h
    cases hr
    rfl
  | _ => exact Response.bytes_of_results_length_zero hsuccess (hlen hsuccess)

/-! ### Events -/

/-- An event of the Set action is for OWN_ADDR, which is one of the targets (R193). -/
theorem dispatchSet_evt {k : Nat} {en : Bool} {s : State} {e : Event} (hnone : s.evt = none)
    (h : (dispatchSet k en s).evt = some e) :
    e = .set s.rxType s.ownAddr (byteAt s.rxPayload 0) ∧ ∃ j, j < k ∧ halfAt s.rxPayload (1 + 2 * j) = s.ownAddr := by
  unfold dispatchSet at h
  split at h
  · next hcond =>
    cases h
    obtain ⟨hhit, -⟩ := (Bool.and_eq_true _ _).mp hcond
    obtain ⟨j, hj, htarget⟩ := List.any_eq_true.mp hhit
    exact ⟨rfl, j, List.mem_range.mp hj, beq_iff_eq.mp htarget⟩
  · rw [hnone] at h
    cases h

theorem dispatchBeacon_evt {en : Bool} {s : State} {e : Event} (hnone : s.evt = none)
    (h : (dispatchBeacon en s).evt = some e) : e = .beacon (wordAt s.rxPayload 0) := by
  unfold dispatchBeacon at h
  split at h
  · cases h
    rfl
  · rw [hnone] at h
    cases h

/-- The action of a supported type is its Beacon or Set action (R190, R191). -/
theorem dispatchAction_evt {s : State} {e : Event} (hnone : s.evt = none) (h : (dispatchAction s).evt = some e) :
    (s.rxType = 0x01 ∧ e = .beacon (wordAt s.rxPayload 0)) ∨
    ∃ m : MsgType, m ≠ .beacon ∧ s.rxType = m.code ∧ e = .set s.rxType s.ownAddr (byteAt s.rxPayload 0) ∧
      ∃ j, j < m.targets ∧ halfAt s.rxPayload (1 + 2 * j) = s.ownAddr := by
  unfold dispatchAction at h
  split at h
  · next htype => exact .inl ⟨MsgType.eq_code_of_ofByte htype, dispatchBeacon_evt hnone h⟩
  · next htype => exact .inr ⟨.set1, by decide, MsgType.eq_code_of_ofByte htype, dispatchSet_evt hnone h⟩
  · next htype => exact .inr ⟨.set2, by decide, MsgType.eq_code_of_ofByte htype, dispatchSet_evt hnone h⟩
  · next htype => exact .inr ⟨.set3, by decide, MsgType.eq_code_of_ofByte htype, dispatchSet_evt hnone h⟩
  · rw [hnone] at h
    cases h

/-- Only DISPATCH of a pending message emits (R192, R226). -/
theorem exec_evt {i : Instr} {s t : State} {e : Event} (h : exec i s = .next t) (hevt : t.evt = some e) :
    (dispatchAction s.beginCommand.consume).evt = some e := by
  have hi : i = .dispatch := by
    by_contra hne
    obtain ⟨-, -, -, -, -, -, -, -, -, hquiet⟩ := commandsWriteOnlyTheirElements i s t h
    cases (hquiet hne).symm.trans hevt
  subst hi
  cases exec_effect h with
  | answered => cases hevt
  | built hparts => cases hparts
  | dispatched => exact hevt
  | badMagic hproc | misdirected _ hproc | checked _ hproc => cases hproc

/-- Which targets a type has: the first, the second unless it is 0x10, the third if it is 0x12 (R85 to R87). -/
theorem MsgType.target_cases {m : MsgType} {j : Nat} (h : j < m.targets) :
    j = 0 ∨ (j = 1 ∧ m.code ≠ 0x10) ∨ (j = 2 ∧ m.code = 0x12) := by
  cases m with
  | beacon => cases h
  | set1 => exact .inl (Nat.lt_one_iff.mp h)
  | set2 =>
    replace h : j < 2 := h
    interval_cases j
    · exact .inl rfl
    · exact .inr (.inl ⟨rfl, by decide⟩)
  | set3 =>
    replace h : j < 3 := h
    interval_cases j
    · exact .inl rfl
    · exact .inr (.inl ⟨rfl, by decide⟩)
    · exact .inr (.inr ⟨rfl, rfl⟩)

theorem MsgType.code_of_ne_beacon {m : MsgType} (h : m ≠ .beacon) :
    m.code = 0x10 ∨ m.code = 0x11 ∨ m.code = 0x12 := by
  cases m with
  | beacon => exact absurd rfl h
  | set1 => exact .inl rfl
  | set2 => exact .inr (.inl rfl)
  | set3 => exact .inr (.inr rfl)

/-- Settles O55, by the action of the pending message's type and, for a Set message, by the target that is OWN_ADDR. -/
theorem eventBytesFollowTheTwoShapes : Obligations.EventBytesFollowTheTwoShapes := by
  intro i s t e h hevt
  rcases dispatchAction_evt rfl (exec_evt h hevt) with ⟨htype, rfl⟩ | ⟨m, hm, htype, rfl, j, hj, htarget⟩
  · exact .inl ⟨htype, congrArg (List.cons _) (wordBytes_be32 ..)⟩
  · replace htype : s.rxType = m.code := htype
    refine .inr ⟨htype ▸ MsgType.code_of_ne_beacon hm, rfl, ?_⟩
    rcases MsgType.target_cases hj with rfl | ⟨rfl, hcode⟩ | ⟨rfl, hcode⟩
    · exact .inl htarget
    · exact .inr (.inl ⟨htype ▸ hcode, htarget⟩)
    · exact .inr (.inr ⟨htype.trans hcode, htarget⟩)

end Sys2Proof.Machine
end

section
/-! O35, O36, O37: the wire rows with a header for this node (R84 to R88). PROCESS extracts the header and records the
freshness outcome alike for every type; the type decides what follows. -/

namespace Sys2Proof.Machine

/-! ### The fields of a wire frame -/

section
variable (h : WireHeader) (type : Byte) (rest : List Byte)

@[simp] theorem frameSrc_headerBytes_append : frameSrc (headerBytes h type ++ rest) = h.src := be16_hi_lo _
@[simp] theorem frameDst_headerBytes_append : frameDst (headerBytes h type ++ rest) = h.dst := be16_hi_lo _
@[simp] theorem frameRst_headerBytes_append : frameRst (headerBytes h type ++ rest) = h.rst := be16_hi_lo _
@[simp] theorem frameMsg_headerBytes_append : frameMsg (headerBytes h type ++ rest) = h.msg := be16_hi_lo _
@[simp] theorem frameType_headerBytes_append : frameType (headerBytes h type ++ rest) = type := rfl

end

theorem frameBytes_eq (h : WireHeader) (type : Byte) (payload : List Byte) (chk : Half) (pad : List Byte) :
    frameBytes h type payload chk pad = headerBytes h type ++ (payload ++ (halfBytes chk ++ pad)) := by
  simp [frameBytes]

theorem framePayload_frameBytes (h : WireHeader) (type : Byte) (payload : List Byte) (chk : Half) (pad : List Byte) :
    framePayload (frameBytes h type payload chk pad) payload.length = payload := by
  rw [frameBytes_eq, framePayload, List.drop_left' (by rfl), List.take_left]

theorem frameChk_frameBytes (h : WireHeader) (type : Byte) (payload : List Byte) (chk : Half) (pad : List Byte) :
    frameChk (frameBytes h type payload chk pad) payload.length = chk := by
  simp [frameBytes_eq, frameChk, halfAt, byteAt_append, headerLen, halfBytes, Nat.add_assoc]

/-- A frame carries its own checksum when it is the CRC of header and payload (R80, R82). -/
theorem checksumOk_frameBytes {h : WireHeader} {type : Byte} {payload : List Byte} {chk : Half} (pad : List Byte)
    (hchk : chk = crc16 (headerBytes h type ++ payload) 0 (10 + payload.length)) :
    checksumOk (frameBytes h type payload chk pad) payload.length = true := by
  have hbody : (frameBytes h type payload chk pad).take (10 + payload.length) = headerBytes h type ++ payload := by
    rw [frameBytes_eq, ← List.append_assoc, List.take_left' (by simp)]
  have hwhole : (headerBytes h type ++ payload).take (10 + payload.length) = headerBytes h type ++ payload :=
    List.take_of_length_le (by simp)
  rw [checksumOk, frameChk_frameBytes, beq_iff_eq, crc16, headerLen, List.drop_zero, hbody, hchk, crc16,
    List.drop_zero, hwhole]

/-! ### PROCESS of a frame for this node -/

/-- The block is initialised and its storage agent answers, and `h` is the header of a frame for this node. -/
structure Receives (s : State) (h : WireHeader) : Prop where
  initDone : s.initDone = true
  agentAnswers : s.agentAnswers = true
  count_le : s.peerCount.toNat ≤ s.cfg.peerCapacity
  dst : h.dst = s.ownAddr ∨ h.dst = broadcast

/-- The receive side after PROCESS steps 1 to 4 (R150): header and freshness outcome `v` recorded, no payload yet. -/
structure Extracted (h : WireHeader) (type : Byte) (v : Status) (u : State) : Prop where
  rxSrc : u.rxSrc = h.src
  rxDst : u.rxDst = h.dst
  rxRst : u.rxRst = h.rst
  rxMsg : u.rxMsg = h.msg
  rxType : u.rxType = type
  rxValidation : u.rxValidation = v
  rxPayload : u.rxPayload = List.replicate 8 0x00
  rxValid : u.rxValid = false
  evt : u.evt = none

theorem checkFreshness_completes {s : State} (hcount : s.peerCount.toNat ≤ s.cfg.peerCapacity)
    (ha : s.agentAnswers = true) (f : List Byte) : checkFreshness f s = .next (afterFreshness f s) :=
  (checkFreshness_eq_next hcount).mpr ⟨fun _ => ha, rfl⟩

/-- A frame for this node is extracted, and judged by its type (R150). -/
theorem Receives.exec_extracted {s : State} {h : WireHeader} (hs : Receives s h) {i : Instr} {type : Byte}
    {rest : List Byte} (hbuffer : processBuffer i = some (headerBytes h type ++ rest)) :
    ∃ u, Extracted h type (classify h.src h.rst h.msg s).status u ∧
      exec i s = .next (judged (headerBytes h type ++ rest) (classify h.src h.rst h.msg s).status u) := by
  have hdst : destinationOk s.ownAddr (frameDst (headerBytes h type ++ rest)) = true := by
    rw [frameDst_headerBytes_append, destinationOk_iff]
    exact hs.dst
  have hexec : exec i s = .next (afterFreshness (headerBytes h type ++ rest)
      (s.beginCommand.clearRx.loadHeader (headerBytes h type ++ rest))) :=
    calc exec i s = processFrame (headerBytes h type ++ rest) s.beginCommand := exec_of_processBuffer hbuffer s
      _ = checkFreshness _ (s.beginCommand.clearRx.loadHeader _) := processFrame_fresh hs.initDone rfl hdst
      _ = .next _ := checkFreshness_completes (s := s.beginCommand.clearRx.loadHeader _) hs.count_le hs.agentAnswers _
  obtain ⟨_, _, _, _, _, _, _, hcheck⟩ := afterCheck_frame h.src h.rst h.msg
    (s.beginCommand.clearRx.loadHeader (headerBytes h type ++ rest))
  simp only [afterFreshness, State.loadHeader_rxSrc, State.loadHeader_rxRst, State.loadHeader_rxMsg,
    frameSrc_headerBytes_append, frameRst_headerBytes_append, frameMsg_headerBytes_append, classify_loadHeader] at hexec
  refine ⟨_, ?_, hexec⟩
  rw [hcheck]
  constructor <;> simp [State.recordValidation]

theorem judged_of_accepting {f : List Byte} {v : Status} {s : State} {m : MsgType}
    (htype : MsgType.ofByte s.rxType = some m) (hchk : checksumOk f m.payloadLen = true) (hv : v.accepting = true) :
    judged f v s = ((s.stagePayload f m.payloadLen).markValid).respond .success [] := by
  simp only [judged, htype, hchk, hv, if_true]

theorem judged_of_unknownType {f : List Byte} {v : Status} {s : State} (htype : MsgType.ofByte s.rxType = none) :
    judged f v s = s.respond .unknownType [] := by
  simp only [judged, htype]

/-! ### The rows of a supported type -/

/-- A fresh frame of a supported type, with its checksum, is accepted and its payload staged (R150 steps 5 to 8). -/
theorem Receives.exec_accepted {s : State} {h : WireHeader} (hs : Receives s h)
    (hfresh : (classify h.src h.rst h.msg s).status.accepting = true) {i : Instr} {m : MsgType} {payload : List Byte}
    {chk : Half} {pad : List Byte} (hbuffer : processBuffer i = some (frameBytes h m.code payload chk pad))
    (hlen : payload.length = m.payloadLen)
    (hchk : chk = crc16 (headerBytes h m.code ++ payload) 0 (10 + payload.length)) :
    ∃ t, exec i s = .next t ∧ t.rsp = some { status := .success, results := [] } ∧ t.rxValid = true ∧ t.evt = none ∧
      t.rxSrc = h.src ∧ t.rxDst = h.dst ∧ t.rxRst = h.rst ∧ t.rxMsg = h.msg ∧ t.rxType = m.code ∧
      t.rxPayload = setBytes (List.replicate 8 0x00) 0 payload := by
  have hok := checksumOk_frameBytes pad hchk
  have hpayload := framePayload_frameBytes h m.code payload chk pad
  rw [hlen] at hok hpayload
  rw [frameBytes_eq] at hbuffer hok hpayload
  obtain ⟨u, hu, hexec⟩ := hs.exec_extracted hbuffer
  rw [judged_of_accepting (by rw [hu.rxType, MsgType.ofByte_code]) hok hfresh, State.stagePayload, hpayload,
    hu.rxPayload] at hexec
  exact ⟨_, hexec, rfl, rfl, hu.evt, hu.rxSrc, hu.rxDst, hu.rxRst, hu.rxMsg, hu.rxType, rfl⟩

/-- Settles O35: the Beacon row of `Receives.exec_accepted`, whose staged payload reads back as the uptime. -/
theorem wireBeaconIsAccepted : Obligations.WireBeaconIsAccepted := by
  intro h uptime chk pad s hinit ha hcount hdst hfresh hchk
  have hs : Receives s h := ⟨hinit, ha, hcount, hdst⟩
  obtain ⟨t, hexec, hrsp, hvalid, hevt, hsrc, hdst', hrst, hmsg, htype, hpayload⟩ :=
    hs.exec_accepted hfresh (i := .wireBeacon h uptime chk pad) (m := .beacon) rfl rfl hchk
  refine ⟨t, hexec, hrsp, hvalid, hevt, hsrc, hdst', hrst, hmsg, htype, hpayload, ?_⟩
  rw [hpayload]
  exact be32_wordBytes uptime

/-- Settles O36: the three Set rows of `Receives.exec_accepted`. -/
theorem wireSetsAreAccepted : Obligations.WireSetsAreAccepted := by
  intro h level a1 a2 a3 chk pad hdr s hinit ha hcount hdst hfresh hhdr
  have hs : Receives s h := ⟨hinit, ha, hcount, hdst⟩
  subst hhdr
  exact ⟨fun hchk => hs.exec_accepted hfresh (m := .set1) rfl rfl hchk,
    fun hchk => hs.exec_accepted hfresh (m := .set2) rfl rfl hchk,
    fun hchk => hs.exec_accepted hfresh (m := .set3) rfl rfl hchk⟩

/-! ### The reserved row -/

theorem Receives.exec_deviceStatus {s : State} {h : WireHeader} (hs : Receives s h) (rest : List Byte) :
    ∃ t, exec (.wireDeviceStatusReserved h rest) s = .next t ∧
      t.rsp = some { status := .unknownType, results := [] } ∧ t.rxValid = false ∧ t.evt = none ∧
      t.rxSrc = h.src ∧ t.rxDst = h.dst ∧ t.rxRst = h.rst ∧ t.rxMsg = h.msg ∧ t.rxType = deviceStatusCode ∧
      t.rxPayload = List.replicate 8 0x00 ∧ t.rxValidation = (classify h.src h.rst h.msg s).status := by
  obtain ⟨u, hu, hexec⟩ := hs.exec_extracted (i := .wireDeviceStatusReserved h rest) (type := deviceStatusCode) rfl
  rw [judged_of_unknownType (by rw [hu.rxType]; rfl)] at hexec
  exact ⟨_, hexec, rfl, hu.rxValid, hu.evt, hu.rxSrc, hu.rxDst, hu.rxRst, hu.rxMsg, hu.rxType, hu.rxPayload,
    hu.rxValidation⟩

theorem exists_buildParts {i : Instr} (h : isBuild i = true) : ∃ m d p, buildParts i = some (m, d, p) := by
  cases i with
  | buildBeacon | buildSet1 | buildSet2 | buildSet3 => exact ⟨_, _, _, rfl⟩
  | _ => cases h

theorem exec_of_buildParts {i : Instr} {m : MsgType} {d : Half} {p : List Byte} (h : buildParts i = some (m, d, p))
    (s : State) : exec i s = .next (afterBuild m d p s.beginCommand) := by
  cases i with
  | buildBeacon | buildSet1 | buildSet2 | buildSet3 =>
    cases h
    rfl
  | _ => cases h

/-- Settles O37: type 0x02 is none of the supported ones, and a builder stamps the code of a supported one. -/
theorem deviceStatusIsAnUnknownType : Obligations.DeviceStatusIsAnUnknownType := by
  refine ⟨fun h rest s hinit ha hcount hdst => Receives.exec_deviceStatus ⟨hinit, ha, hcount, hdst⟩ rest,
    fun en s => rfl, fun i s t hbuild hB hlen hexec => ?_⟩
  obtain ⟨m, d, p, hparts⟩ := exists_buildParts hbuild
  rw [exec_of_buildParts hparts] at hexec
  cases hexec
  have htype : byteAt (builtTxbuf m d p s.txbuf) 9 = m.code := byteAt_builtTxbuf_type m d p (hB ▸ hlen)
  simp only [afterBuild, State.respond_txbuf, State.beginCommand_txbuf, htype]
  cases m <;> decide

end Sys2Proof.Machine
end

section
/-! O18, O19, O20, O51: the CRC-16 generator and its command (R120 to R124). One shift is linear and, as the constant
term of the generator is 1, injective; a byte, a byte string and the laws of R124 inherit both. -/

namespace Sys2Proof.Machine

/-! ### One shift -/

theorem crcShift_eq_xor (c : Half) : crcShift c = (c <<< 1) ^^^ (if c.getLsbD 15 then crcPoly else 0) := by
  unfold crcShift
  split <;> simp

/-- The polynomials of two top bits add up to that of their exclusive-or. -/
theorem ite_xor_ite_crcPoly (p q : Bool) :
    (if (p ^^ q) then crcPoly else 0) = (if p then crcPoly else 0) ^^^ (if q then crcPoly else 0) := by
  cases p <;> cases q <;> rfl

theorem crcShift_xor (c d : Half) : crcShift (c ^^^ d) = crcShift c ^^^ crcShift d := by
  rw [crcShift_eq_xor, crcShift_eq_xor c, crcShift_eq_xor d, BitVec.shiftLeft_xor_distrib, BitVec.getLsbD_xor,
    ite_xor_ite_crcPoly]
  ac_rfl

/-- The shift keeps the top bit: it comes in at the bottom with the polynomial's constant term. -/
theorem getLsbD_zero_crcShift (c : Half) : (crcShift c).getLsbD 0 = c.getLsbD 15 := by
  rw [crcShift_eq_xor, BitVec.getLsbD_xor]
  cases c.getLsbD 15 <;> simp [crcPoly]

theorem crcShift_injective : Function.Injective crcShift := by
  intro c d h
  have htop : c.getLsbD 15 = d.getLsbD 15 := by
    rw [← getLsbD_zero_crcShift, h, getLsbD_zero_crcShift]
  have hrest : c <<< 1 = d <<< 1 := by
    rwa [crcShift_eq_xor, crcShift_eq_xor d, htop, BitVec.xor_left_inj] at h
  refine BitVec.eq_of_getLsbD_eq fun i hi => ?_
  by_cases h15 : i = 15
  · rw [h15, htop]
  · have hbit := congrArg (·.getLsbD (i + 1)) hrest
    simpa [BitVec.getLsbD_shiftLeft, -BitVec.getLsbD_eq_getElem, show i + 1 < 16 by omega] using hbit

/-! ### Eight shifts, a byte, a byte string -/

theorem crcShifts_xor (n : Nat) (c d : Half) : crcShifts n (c ^^^ d) = crcShifts n c ^^^ crcShifts n d := by
  induction n generalizing c d with
  | zero => rfl
  | succ n ih => rw [crcShifts, crcShift_xor, ih]; rfl

theorem crcShifts_injective (n : Nat) : Function.Injective (crcShifts n) := by
  induction n with
  | zero => exact Function.injective_id
  | succ n ih => exact ih.comp crcShift_injective

theorem byte_append_zero_xor (a b : Byte) :
    ((a ^^^ b) ++ (0 : Byte) : Half) = (a ++ (0 : Byte)) ^^^ (b ++ (0 : Byte)) := by
  rw [BitVec.xor_append, BitVec.xor_self]
  rfl

theorem crcByte_xor (c d : Half) (a b : Byte) : crcByte (c ^^^ d) (a ^^^ b) = crcByte c a ^^^ crcByte d b := by
  rw [crcByte, crcByte, crcByte, ← crcShifts_xor, byte_append_zero_xor]
  congr 1
  ac_rfl

theorem crcByte_left_injective (b : Byte) : Function.Injective (crcByte · b) := fun _ _ h =>
  (BitVec.xor_left_inj _).mp (crcShifts_injective 8 h)

theorem crcByte_right_injective (c : Half) : Function.Injective (crcByte c) := fun _ _ h =>
  (BitVec.append_left_inj _).mp ((BitVec.xor_right_inj c).mp (crcShifts_injective 8 h))

theorem crcFrom_append (c : Half) (x y : List Byte) : crcFrom c (x ++ y) = crcFrom (crcFrom c x) y :=
  List.foldl_append

theorem crcFrom_left_injective (x : List Byte) : Function.Injective (crcFrom · x) := by
  induction x with
  | nil => exact Function.injective_id
  | cons b x ih => exact ih.comp (crcByte_left_injective b)

theorem crcFrom_zipWith_xor {x y : List Byte} (h : x.length = y.length) (c d : Half) :
    crcFrom (c ^^^ d) (List.zipWith (fun p q => p ^^^ q) x y) = crcFrom c x ^^^ crcFrom d y := by
  induction x generalizing y c d with
  | nil =>
    obtain rfl := List.eq_nil_of_length_eq_zero h.symm
    rfl
  | cons a x ih =>
    obtain ⟨b, y, rfl⟩ := List.exists_cons_of_length_eq_add_one h.symm
    calc crcFrom (crcByte (c ^^^ d) (a ^^^ b)) (List.zipWith (fun p q => p ^^^ q) x y)
      _ = crcFrom (crcByte c a ^^^ crcByte d b) (List.zipWith (fun p q => p ^^^ q) x y) := by rw [crcByte_xor]
      _ = crcFrom (crcByte c a) x ^^^ crcFrom (crcByte d b) y := ih (Nat.succ.inj h) _ _

theorem crcFrom_replicate_zero (n : Nat) : crcFrom 0x0000 (List.replicate n 0x00) = 0x0000 := by
  induction n with
  | zero => rfl
  | succ n ih => exact ih

/-- A string with one byte changed has another CRC: the register differs after that byte, and from there on. -/
theorem crcFrom_set_ne {x : List Byte} {i : Nat} (hi : i < x.length) {b : Byte} (hb : b ≠ byteAt x i) (c : Half) :
    crcFrom c (x.set i b) ≠ crcFrom c x := by
  have hx : x = x.take i ++ byteAt x i :: x.drop (i + 1) := by
    rw [byteAt, List.getD_eq_getElem _ _ hi, List.getElem_cons_drop, List.take_append_drop]
  intro h
  rw [List.set_eq_take_append_cons_drop, if_pos hi] at h
  conv at h => rhs; rw [hx]
  rw [crcFrom_append, crcFrom_append] at h
  exact hb (crcByte_right_injective _ (crcFrom_left_injective _ h))

/-! ### Ranges -/

/-- The CRC of a range depends on the bytes of the range only. -/
theorem crc16_congr {x y : List Byte} {i j n : Nat} (hx : i + n ≤ x.length) (hy : j + n ≤ y.length)
    (h : ∀ k, k < n → byteAt x (i + k) = byteAt y (j + k)) : crc16 x i n = crc16 y j n := by
  refine congrArg (crcFrom 0x0000) (eq_of_byteAt (by simp; omega) fun k hk => ?_)
  have hkn : k < n := by simp at hk; omega
  rw [byteAt_take, byteAt_take, if_pos hkn, if_pos hkn, byteAt_drop, byteAt_drop, h k hkn]

theorem crc16_of_length_le {x : List Byte} {i n : Nat} (h : x.length ≤ i + n) :
    crc16 x i n = crcFrom 0x0000 (x.drop i) := by
  rw [crc16, List.take_of_length_le (by simp; omega)]

theorem crc16_whole {x : List Byte} {n : Nat} (h : n = x.length) : crc16 x 0 n = crcFrom 0x0000 x :=
  crc16_of_length_le (by omega)

/-! ### The per-bit form -/

theorem crcSerialBit_eq_xor (b : Byte) (c : Half) (j : Nat) :
    crcSerialBit b c j = (c <<< 1) ^^^ (if (c.getLsbD 15 ^^ b.getLsbD j) then crcPoly else 0) := by
  unfold crcSerialBit
  split
  · rfl
  · exact BitVec.xor_zero.symm

/-- A byte that R120 put into the upper half of the register, after `k` shifts that left the polynomial out. -/
def shiftedByte (b : Byte) (k : Nat) : Half := (b ++ (0 : Byte)) <<< k

theorem shiftedByte_zero (b : Byte) : shiftedByte b 0 = b ++ (0 : Byte) := BitVec.shiftLeft_zero _

theorem shiftedByte_succ (b : Byte) (k : Nat) : shiftedByte b (k + 1) = shiftedByte b k <<< 1 :=
  BitVec.shiftLeft_add _ k 1

theorem getLsbD_fifteen_shiftedByte (b : Byte) {j k : Nat} (h : j + k = 7) :
    (shiftedByte b k).getLsbD 15 = b.getLsbD j := by
  obtain rfl : k = 7 - j := by omega
  rw [shiftedByte, BitVec.getLsbD_shiftLeft, BitVec.getLsbD_append, if_neg (by omega),
    show 15 - (7 - j) - 8 = j by omega]
  simp [show ¬ 15 < 7 - j by omega]

theorem shiftedByte_eight (b : Byte) : shiftedByte b 8 = 0 := by
  refine BitVec.eq_of_getLsbD_eq fun i hi => ?_
  rw [shiftedByte, BitVec.getLsbD_shiftLeft, BitVec.getLsbD_append, if_pos (by omega)]
  simp

/-- One shift of a register that carries the byte does one per-bit step: the byte's top bit is the input bit, the rest
of the byte moves on untouched. -/
theorem crcShift_xor_shiftedByte (c : Half) (b : Byte) {j k : Nat} (h : j + k = 7) :
    crcShift (c ^^^ shiftedByte b k) = crcSerialBit b c j ^^^ shiftedByte b (k + 1) := by
  rw [crcShift_eq_xor, crcSerialBit_eq_xor, BitVec.shiftLeft_xor_distrib, BitVec.getLsbD_xor,
    getLsbD_fifteen_shiftedByte b h, shiftedByte_succ]
  ac_rfl

theorem crcShifts_xor_shiftedByte (c : Half) (b : Byte) {n k : Nat} (h : n + k = 8) :
    crcShifts n (c ^^^ shiftedByte b k) = (List.range n).reverse.foldl (crcSerialBit b) c := by
  induction n generalizing c k with
  | zero =>
    obtain rfl : k = 8 := by omega
    rw [shiftedByte_eight]
    exact BitVec.xor_zero
  | succ n ih =>
    rw [crcShifts, crcShift_xor_shiftedByte c b (j := n) (by omega), ih _ (by omega), List.range_succ,
      List.reverse_concat, List.foldl_cons]

theorem crcByte_eq_serial (c : Half) (b : Byte) :
    crcByte c b = [7, 6, 5, 4, 3, 2, 1, 0].foldl (crcSerialBit b) c := by
  rw [crcByte, ← shiftedByte_zero, crcShifts_xor_shiftedByte c b rfl]
  rfl

theorem crcFrom_zero_eq_crcSerial (bytes : List Byte) : crcFrom 0x0000 bytes = crcSerial bytes :=
  congrArg (bytes.foldl · 0x0000) (funext₂ crcByte_eq_serial)

/-- Settles O18: eight shifts of a byte are the per-bit steps on its bits 7 to 0. -/
theorem crcMatchesBitSerialForm : Obligations.CrcMatchesBitSerialForm :=
  fun _ _ _ _ => crcFrom_zero_eq_crcSerial _

/-- Settles O51: such a range covers every byte from `start` on. -/
theorem crcPastTheDataStopsAtItsEnd : Obligations.CrcPastTheDataStopsAtItsEnd := fun data start length h => by
  rw [crc16_of_length_le (Nat.le_of_lt h), crcFrom_zero_eq_crcSerial]

/-! ### The laws -/

/-- An exclusive-or with a single bit changes a byte. -/
theorem xor_one_shiftLeft_ne (b : Byte) {j : Nat} (hj : j < 8) : b ^^^ (1#8 <<< j) ≠ b := by
  intro h
  have hbit : (b ^^^ (1#8 <<< j)).getLsbD j = b.getLsbD j := by rw [h]
  simp [hj] at hbit

/-- Settles O19: (a) by the bytes of the range, (b) by induction from the linearity of a shift, (c) as a zero register
stays zero over zero bytes, (d) as the register keeps a difference once it is there. -/
theorem crcLaws : Obligations.CrcLaws := by
  refine ⟨fun x y i j n hx hy h => crc16_congr hx hy h, fun x y hlen => ?_, fun n x => ?_, fun x i j hi hj => ?_⟩
  · rw [crc16_whole (by simp [hlen]), crc16_whole rfl, crc16_whole rfl]
    exact crcFrom_zipWith_xor hlen 0x0000 0x0000
  · rw [crc16_whole (by simp), crc16_whole rfl, crcFrom_append, crcFrom_replicate_zero]
  · rw [crc16_whole (by simp), crc16_whole rfl]
    exact crcFrom_set_ne hi (xor_one_shiftLeft_ne _ hj) _

/-! ### The command -/

theorem encode_crc16 (l start length : Half) (data : List Byte) : encode (.crc16 l start length data) =
    [0x08, hi l, lo l, hi start, lo start, hi length, lo length] ++ data := rfl

/-- The length of a CRC16 frame counts L data bytes after the six operand bytes (R94). -/
theorem commandLength_crc16 (b : Nat) (l : Half) (rest : List Byte) :
    commandLength b (0x08 :: hi l :: lo l :: rest) = some (7 + l.toNat) := by
  rw [commandLength, be16_hi_lo]
  rfl

theorem commandLength_crc16_ne {b : Nat} {args : List Byte} (h : args.length < 6) :
    commandLength b (0x08 :: args) ≠ some (0x08 :: args).length := by
  intro hlen
  match args, h, hlen with
  | [], _, hlen => cases hlen
  | [_], _, hlen => cases hlen
  | l1 :: l0 :: rest, h, hlen =>
    have hframe : 7 + (be16 l1 l0).toNat = (0x08 :: l1 :: l0 :: rest).length := Option.some.inj hlen
    simp only [List.length_cons] at h hframe
    omega

/-- CRC16 answers, and does nothing else (R122). -/
theorem exec_crc16 (l start length : Half) (data : List Byte) (s : State) :
    exec (.crc16 l start length data) s = .next { s with
      rsp := some (if start.toNat + length.toNat > l.toNat then { status := .badRange, results := [] }
        else { status := .success, results := halfBytes (crc16 data start.toNat length.toNat) })
      evt := none, sto := [] } := by
  rw [exec, execCrc16]
  split
  · rfl
  · rfl

theorem crc16_replicate_zero (n start length : Nat) : crc16 (List.replicate n 0x00) start length = 0x0000 := by
  rw [crc16, List.drop_replicate, List.take_replicate, crcFrom_replicate_zero]

/-- Settles O20: a frame of another length than its opcode gives is illegal, and the command's range check is on
unbounded numbers. -/
theorem crc16CommandAnswers : Obligations.Crc16CommandAnswers := by
  refine ⟨encode_crc16, fun l start length data b hdata => ⟨_, decode_of_commandLength_ne fun hlen => hdata ?_⟩,
    fun args b hshort => ⟨_, decode_of_commandLength_ne (commandLength_crc16_ne hshort)⟩, exec_crc16,
    fun data start => rfl, crc16_replicate_zero, by decide +kernel⟩
  have hframe : 7 + l.toNat = data.length + 7 := Option.some.inj ((commandLength_crc16 b l _).symm.trans hlen)
  omega

end Sys2Proof.Machine
end

section
/-! O21, O22, O23: what a builder leaves in TXBUF, as one list (R130 to R134). -/

namespace Sys2Proof.Machine

/-! ### Writing a field of a buffer -/

/-- `setBytes` replaces a field of the buffer by one of its length, and keeps what stands before and after it. -/
theorem setBytes_append {before field : List Byte} (new after : List Byte) {i : Nat} (hi : before.length = i)
    (hlen : field.length = new.length) :
    setBytes (before ++ (field ++ after)) i new = before ++ (new ++ after) := by
  refine eq_of_byteAt (by simp [hlen]) fun k _ => ?_
  rw [byteAt_setBytes]
  simp only [byteAt_append, List.length_append, hi, hlen]
  grind

/-! ### The built buffer -/

/-- TXBUF after a builder: bytes 0 to 2 as before, destination, four zero counter bytes, type, payload, zeros (R130). -/
theorem builtTxbuf_eq (m : MsgType) (d : Half) (p : List Byte) {buf : List Byte} (hlen : 10 + p.length ≤ buf.length) :
    builtTxbuf m d p buf = buf.take 3 ++ (halfBytes d ++ (List.replicate 4 0x00 ++ (m.code :: p))) ++
      List.replicate (buf.length - (10 + p.length)) 0x00 := by
  have hzeros : List.replicate (buf.length - 3) (0x00 : Byte) = List.replicate 2 0x00 ++ (List.replicate 4 0x00 ++
      (List.replicate 1 0x00 ++ (List.replicate p.length 0x00 ++
        List.replicate (buf.length - (10 + p.length)) 0x00))) := by
    simp only [List.replicate_append_replicate]
    congr 1
    omega
  have h3 : (buf.take 3).length = 3 := by simp; omega
  rw [builtTxbuf, clearFrom, hzeros, setBytes_append (halfBytes d) _ h3 (by simp), ← List.append_assoc,
    ← List.append_assoc, setBytes_append [m.code] _ (by simp [h3]) (by simp), ← List.append_assoc,
    setBytes_append p _ (by simp [h3, headerLen]) (by simp)]
  simp

/-- What a builder does to a state, its buffer written out (R130). -/
theorem exec_build_eq {i : Instr} {m : MsgType} {d : Half} {p : List Byte} (hparts : buildParts i = some (m, d, p))
    {s : State} (hlen : s.txbuf.length = s.cfg.wireBufSize) (hB : 20 ≤ s.cfg.wireBufSize) :
    exec i s = .next { s with
      txbuf := s.txbuf.take 3 ++ (halfBytes d ++ (List.replicate 4 0x00 ++ (m.code :: p))) ++
        List.replicate (s.cfg.wireBufSize - (10 + p.length)) 0x00
      txLen := BitVec.ofNat 8 m.frameLen
      rsp := some { status := .success, results := [] }, evt := none, sto := [] } := by
  have hfit : 10 + p.length ≤ s.txbuf.length := by
    have := m.payloadLen_le
    rw [buildParts_payload_length hparts]
    omega
  rw [exec_of_buildParts hparts, afterBuild, State.beginCommand_txbuf, builtTxbuf_eq m d p hfit, hlen]
  rfl

/-- Settles O21: the Beacon is built for broadcast, with the four bytes of the uptime as payload. -/
theorem buildBeaconWritesTheFrame : Obligations.BuildBeaconWritesTheFrame :=
  fun uptime _ hlen hB => ⟨rfl, (exec_build_eq (i := .buildBeacon uptime) rfl hlen hB).trans rfl⟩

/-- Settles O22: the three Set commands are builders whose payload is the level and the addresses. -/
theorem buildSetsWriteTheFrames : Obligations.BuildSetsWriteTheFrames :=
  fun dest level a1 a2 a3 _ hlen hB => ⟨rfl, rfl, rfl,
    (exec_build_eq (i := .buildSet1 dest level a1) rfl hlen hB).trans rfl,
    (exec_build_eq (i := .buildSet2 dest level a1 a2) rfl hlen hB).trans rfl,
    (exec_build_eq (i := .buildSet3 dest level a1 a2 a3) rfl hlen hB).trans rfl⟩

/-! ### A build on top of a build -/

/-- A builder reads bytes 0 to 2 of TXBUF only, which no builder changes (R130). -/
theorem builtTxbuf_builtTxbuf (m m' : MsgType) (d d' : Half) (p p' buf : List Byte) :
    builtTxbuf m' d' p' (builtTxbuf m d p buf) = builtTxbuf m' d' p' buf := by
  have hkept : (builtTxbuf m d p buf).take 3 = buf.take 3 :=
    take_eq_of_byteAt (builtTxbuf_length m d p buf) fun _ => byteAt_builtTxbuf_of_lt m d p buf
  have hclear : clearFrom (builtTxbuf m d p buf) 3 = clearFrom buf 3 := by
    rw [clearFrom, clearFrom, hkept, builtTxbuf_length]
  rw [builtTxbuf, hclear, builtTxbuf]

theorem afterBuild_afterBuild (m m' : MsgType) (d d' : Half) (p p' : List Byte) (s : State) :
    afterBuild m' d' p' (afterBuild m d p s.beginCommand).beginCommand = afterBuild m' d' p' s.beginCommand := by
  simp only [afterBuild, State.respond, State.beginCommand, builtTxbuf_builtTxbuf]

/-- Settles O23: the second builder writes all that the first wrote, and reads none of it. -/
theorem buildReplacesBuild : Obligations.BuildReplacesBuild := by
  intro i j s hi hj _ _
  obtain ⟨m, d, p, hparts⟩ := exists_buildParts hi
  obtain ⟨m', d', p', hparts'⟩ := exists_buildParts hj
  refine ⟨_, exec_of_buildParts hparts s, ?_, rfl⟩
  rw [exec_of_buildParts hparts', exec_of_buildParts hparts', afterBuild_afterBuild]

end Sys2Proof.Machine
end

section
/-! O24, O25, O26: FINALIZE (R135 to R138): how the own counters advance, and the buffer it puts out. -/

namespace Sys2Proof.Machine

/-! ### Advancing the own counters -/

/-- The own (reset, message) pair after `(r, m)` (R136). -/
def nextPair : Half × Half → Half × Half
  | (r, m) => if m = 0xFFFF then (r + 1, 1) else (r, m + 1)

theorem ne_zero_of_eq_nextPair {r m r' m' : Half} (hnext : (r', m') = nextPair (r, m)) : m' ≠ 0 := by
  rw [nextPair] at hnext
  split at hnext
  · cases hnext
    decide
  · next hmax =>
    cases hnext
    bv_omega

/-- The pair after `(r, m)` is strictly higher, unless the reset counter wraps (R139 (b)). -/
theorem pairLt_of_eq_nextPair {r m r' m' : Half} (hnext : (r', m') = nextPair (r, m))
    (hwrap : ¬ (r = 0xFFFF ∧ m = 0xFFFF)) : pairLt r m r' m' := by
  rw [nextPair] at hnext
  split at hnext
  · next hmax =>
    cases hnext
    have hr : r ≠ 0xFFFF := fun hr => hwrap ⟨hr, hmax⟩
    exact .inl (by bv_omega)
  · next hmax =>
    cases hnext
    exact .inr ⟨rfl, by bv_omega⟩

/-- The n-th pair, counted from 0, after `(r, 0)`: message counters run 1, …, 65535, 1, …, and each wrap adds one to the
reset counter (R136). -/
theorem nextPair_iterate_succ (r : Half) (n : Nat) :
    nextPair^[n + 1] (r, 0) = (r + BitVec.ofNat 16 (n / 65535), BitVec.ofNat 16 (n % 65535 + 1)) := by
  induction n with
  | zero => simp [nextPair]
  | succ n ih =>
    rw [Function.iterate_succ_apply', ih, nextPair]
    by_cases hwrap : n % 65535 = 65534
    · have hdiv : (n + 1) / 65535 = n / 65535 + 1 := by omega
      have hmod : (n + 1) % 65535 = 0 := by omega
      rw [hwrap, hdiv, hmod, if_pos (by decide), BitVec.ofNat_add, ← BitVec.add_assoc]
      rfl
    · have hdiv : (n + 1) / 65535 = n / 65535 := by omega
      have hmod : (n + 1) % 65535 = n % 65535 + 1 := by omega
      rw [hdiv, hmod, if_neg (by bv_omega), BitVec.ofNat_add (n % 65535 + 1)]
      rfl

theorem afterAdvance_pair (s : State) :
    ((afterAdvance s).ownRst, (afterAdvance s).ownMsg) = nextPair (s.ownRst, s.ownMsg) := by
  rw [afterAdvance, nextPair]
  split
  · rfl
  · rfl

theorem afterAdvance_of_ne_max {s : State} (h : s.ownMsg ≠ 0xFFFF) :
    afterAdvance s = { s with ownMsg := s.ownMsg + 1 } := if_neg h

/-- On overflow the new reset counter is stored and committed (R136). -/
theorem afterAdvance_of_max {s : State} (h : s.ownMsg = 0xFFFF) {txns : List StTxn}
    (htxns : txns = writeHalfTxns (ownRstOff s.cfg) (s.ownRst + 1) ++ [.commit]) :
    afterAdvance s = { s with
      ownMsg := 1, ownRst := s.ownRst + 1, sto := s.sto ++ txns
      storage := txns.foldl StTxn.store s.storage, committed := txns.foldl StTxn.store s.storage } := by
  rw [afterAdvance, if_pos h, afterTxns, htxns, commitFold_commit, foldl_store_commit]
  rfl

theorem advanceOwnCounters_completes {s : State} (ha : s.ownMsg = 0xFFFF → s.agentAnswers = true) :
    advanceOwnCounters s = .next (afterAdvance s) := by
  rw [advanceOwnCounters, afterAdvance]
  split
  · next hmax => exact issue_completes (fun _ => ha hmax) (ownRstTxns_inRange s.cfg _)
  · rfl

/-! ### The buffer FINALIZE puts out -/

/-- The stamped checksum is over bytes that stamping it leaves alone (R137). -/
theorem crc16_finalFrame (rst msg : Half) (len : Nat) (buf : List Byte) :
    crc16 (finalFrame rst msg len buf) 0 (len - 2) = crc16 (stampCounters rst msg buf) 0 (len - 2) := by
  have hbody : (finalFrame rst msg len buf).take (len - 2) = (stampCounters rst msg buf).take (len - 2) :=
    take_eq_of_byteAt (setBytes_length _ _ _) fun k hk => by
      rw [finalFrame, stampChecksum, byteAt_setBytes, if_neg (by omega)]
  rw [crc16, crc16, List.drop_zero, List.drop_zero, hbody]

theorem byteAt_stampCounters (rst msg : Half) {buf : List Byte} {k : Nat} (hk : k < buf.length) :
    byteAt (stampCounters rst msg buf) k =
      if k = 5 then hi rst else if k = 6 then lo rst else if k = 7 then hi msg else if k = 8 then lo msg
      else byteAt buf k := by
  rw [stampCounters, byteAt_setBytes]
  split
  · next hin =>
    obtain ⟨h5, h9, -⟩ := hin
    replace h9 : k < 9 := h9
    interval_cases k <;> rfl
  · next hout =>
    simp only [List.length_append, halfBytes_length] at hout
    rw [if_neg (by omega), if_neg (by omega), if_neg (by omega), if_neg (by omega)]

/-- FINALIZE stamps the counters into bytes 5 to 8, its checksum into the last two bytes of the frame, and leaves every
other byte as it was built (R135). -/
theorem byteAt_finalFrame (rst msg : Half) {buf : List Byte} {len k : Nat} (hlen : 11 ≤ len) (hk : k < buf.length) :
    byteAt (finalFrame rst msg len buf) k =
      if k = 5 then hi rst else if k = 6 then lo rst else if k = 7 then hi msg else if k = 8 then lo msg
      else if k = len - 2 then hi (crc16 (finalFrame rst msg len buf) 0 (len - 2))
      else if k = len - 1 then lo (crc16 (finalFrame rst msg len buf) 0 (len - 2))
      else byteAt buf k := by
  rw [crc16_finalFrame, finalFrame, stampChecksum, byteAt_setBytes, byteAt_stampCounters rst msg hk]
  split
  · next hin =>
    have hlast : (k = len - 2 ∧ k - (len - 2) = 0) ∨ (k = len - 1 ∧ k - (len - 2) = 1) := by
      rw [halfBytes_length] at hin
      omega
    rcases hlast with ⟨hk, hfirst⟩ | ⟨hk, hsecond⟩
    · rw [hfirst, if_neg (by omega), if_neg (by omega), if_neg (by omega), if_neg (by omega), if_pos hk]
      rfl
    · rw [hsecond, if_neg (by omega), if_neg (by omega), if_neg (by omega), if_neg (by omega), if_neg (by omega),
        if_pos hk]
      rfl
  · next hout =>
    rw [halfBytes_length, stampCounters, setBytes_length] at hout
    rw [if_neg (c := k = len - 2) (by omega), if_neg (c := k = len - 1) (by omega)]

/-- The frame put out carries in bytes 5 to 8 the counters it was stamped with (R80, R135). -/
theorem finalFrame_counters (rst msg : Half) {buf : List Byte} {len : Nat} (hlen : 11 ≤ len) (hbuf : 9 ≤ buf.length) :
    halfAt (finalFrame rst msg len buf) 5 = rst ∧ halfAt (finalFrame rst msg len buf) 7 = msg := by
  have hbyte := fun k (hk : k < buf.length) => byteAt_finalFrame rst msg hlen hk
  rw [halfAt, halfAt, hbyte 5 (by omega), hbyte 6 (by omega), hbyte 7 (by omega), hbyte 8 (by omega)]
  exact ⟨be16_hi_lo rst, be16_hi_lo msg⟩

/-! ### FINALIZE -/

theorem exec_finalize_of_not_init {s : State} (hinit : s.initDone = false) :
    exec .finalize s = .next (s.beginCommand.respond .notInitialized []) := by
  rw [exec, execFinalize, hinit]
  rfl

theorem exec_finalize_of_nothing_built {s : State} (hinit : s.initDone = true) (hlen : s.txLen = 0) :
    exec .finalize s = .next (s.beginCommand.respond .noMessage []) := by
  rw [exec, execFinalize, hinit, if_neg (by decide), if_pos hlen]
  rfl

/-- FINALIZE of a built message completes, the agent answering if the message counter overflows (R135). -/
theorem exec_finalize_of_built {s : State} (hinit : s.initDone = true) (hlen : s.txLen ≠ 0)
    (ha : s.ownMsg = 0xFFFF → s.agentAnswers = true) :
    exec .finalize s = .next (afterEmit (afterAdvance s.beginCommand)) := by
  rw [exec, execFinalize, hinit, if_neg (by decide), if_neg hlen,
    advanceOwnCounters_completes (s := s.beginCommand) ha]
  rfl

/-- A successful FINALIZE moves the own counters on by one, and puts out the built buffer stamped with them (R135). -/
theorem exec_finalize_of_success {s t : State} {results : List Byte} (h : exec .finalize s = .next t)
    (hrsp : t.rsp = some { status := .success, results := results }) :
    s.txLen ≠ 0 ∧ results = s.txLen :: finalFrame t.ownRst t.ownMsg s.txLen.toNat s.txbuf ∧
      (t.ownRst, t.ownMsg) = nextPair (s.ownRst, s.ownMsg) := by
  rcases exec_finalize_cases h with ⟨st, hne, rfl⟩ | ⟨hlen, rfl⟩
  · cases hrsp
    exact absurd rfl hne
  · refine ⟨hlen, ?_, afterAdvance_pair s.beginCommand⟩
    obtain ⟨_, _, _, _, _, hadvance⟩ := afterAdvance_frame s.beginCommand
    rw [hadvance] at hrsp ⊢
    cases hrsp
    rfl

/-- The wiped buffer: the magic byte, the own address, zeros (R29, R138). -/
theorem State.Inv.clearFrom_txbuf {s : State} (h : s.Inv) :
    clearFrom s.txbuf 3 = [0xAA, hi s.ownAddr, lo s.ownAddr] ++ List.replicate (s.cfg.wireBufSize - 3) 0x00 := by
  rw [clearFrom, h.txbuf_fixed, h.txbuf_length]
  rfl

/-- A built message has the 12 bytes of header and checksum at least (R81). -/
theorem State.Inv.txLen_ge {s : State} (h : s.Inv) (hbuilt : s.txLen ≠ 0) : 12 ≤ s.txLen.toNat := by
  obtain ⟨m, hm⟩ := h.exists_frameLen hbuilt
  rw [hm, m.frameLen_eq]
  omega

/-- Settles O24: the two errors end before a write; a built message goes out stamped, its padding being zero by the
invariant, and the counters decide between the two ends of an advance. -/
theorem finalizeEmitsTheStampedFrame : Obligations.FinalizeEmitsTheStampedFrame := by
  refine ⟨rfl, fun s => exec_finalize_of_not_init, fun s => exec_finalize_of_nothing_built,
    fun s rst msg txns h hB hinit hbuilt ha hrst hmsg htxns => ?_⟩
  have hlen := h.txLen_ge hbuilt
  refine ⟨finalFrame rst msg s.txLen.toNat s.txbuf, by rw [finalFrame_length, h.txbuf_length], fun k hk => ?_, ?_⟩
  · rw [byteAt_finalFrame rst msg (by omega) (hk.trans_eq h.txbuf_length.symm)]
    by_cases hpad : s.txLen.toNat ≤ k
    · rw [if_pos hpad, h.byteAt_txbuf_eq_zero (by omega) hpad]
    · rw [if_neg hpad]
  · rw [exec_finalize_of_built hinit hbuilt ha]
    by_cases hmax : s.ownMsg = 0xFFFF
    · rw [if_pos hmax] at hrst hmsg htxns
      subst hrst hmsg
      rw [afterAdvance_of_max (s := s.beginCommand) hmax htxns, afterEmit, ← h.clearFrom_txbuf]
      rfl
    · rw [if_neg hmax] at hrst hmsg htxns
      subst hrst hmsg htxns
      rw [afterAdvance_of_ne_max (s := s.beginCommand) hmax, afterEmit, ← h.clearFrom_txbuf]
      simp only [State.respond, State.beginCommand, h.all_committed, List.foldl_nil]

/-! ### The own pair along commands -/

/-- A built message has its type byte in the buffer (R30). -/
theorem State.Inv.header_fits {s : State} (h : s.Inv) (hbuilt : s.txLen ≠ 0) : 9 < s.txbuf.length := by
  by_contra hshort
  have htype := h.tx_len.resolve_left hbuilt
  rw [byteAt_of_length_le (Nat.le_of_not_lt hshort)] at htype
  cases htype

/-- Once INIT is done a command leaves the own counters as they are, or is a FINALIZE that moves them on by one. -/
theorem exec_own_pair {i : Instr} {s t : State} (hinit : s.initDone = true) (h : exec i s = .next t) :
    (t.ownRst, t.ownMsg) = (s.ownRst, s.ownMsg) ∨
      (i = .finalize ∧ (t.ownRst, t.ownMsg) = nextPair (s.ownRst, s.ownMsg)) := by
  cases exec_effect h with
  | finalized => exact .inr ⟨rfl, afterAdvance_pair s.beginCommand⟩
  | initialized hnot => exact absurd (hinit.symm.trans hnot) (by decide)
  | dispatched =>
    obtain ⟨_, haction⟩ := dispatchAction_frame s.beginCommand.consume
    rw [haction]
    exact .inl rfl
  | checked f =>
    obtain ⟨_, _, _, _, _, _, _, _, _, _, _, hfresh⟩ := afterFreshness_frame f (s.beginCommand.clearRx.loadHeader f)
    rw [hfresh]
    exact .inl rfl
  | answered | registered | built | badMagic | misdirected => exact .inl rfl

theorem pairLe_of_pairLt {r' m' r m : Half} (h : pairLt r' m' r m) : pairLe r' m' r m :=
  h.imp_right (And.imp_right BitVec.le_of_lt)

theorem State.exists_results_of_succeeded {s : State} (h : s.succeeded = true) :
    ∃ results, s.rsp = some { status := .success, results := results } := by
  obtain ⟨⟨status, results⟩, hrsp, hstatus⟩ := Option.map_eq_some_iff.mp (beq_iff_eq.mp h)
  obtain rfl : status = .success := hstatus
  exact ⟨results, hrsp⟩

/-- Settles O26: the pair moves by FINALIZE only, to the next one, which is higher and is the one stamped. -/
theorem emittedPairsIncrease : Obligations.EmittedPairsIncrease := by
  intro i s t h hinit hexec
  refine ⟨fun hwrap => ?_, fun hi hsuccess => ?_⟩
  · rcases exec_own_pair hinit hexec with hsame | ⟨hi, hnext⟩
    · obtain ⟨hrst, hmsg⟩ := Prod.mk.inj hsame
      rw [hrst, hmsg]
      exact pairLe_refl _ _
    · exact pairLe_of_pairLt (pairLt_of_eq_nextPair hnext fun hmax => hwrap ⟨hi, hmax⟩)
  · subst hi
    obtain ⟨results, hrsp⟩ := State.exists_results_of_succeeded hsuccess
    obtain ⟨hbuilt, rfl, hnext⟩ := exec_finalize_of_success hexec hrsp
    have hlen := h.txLen_ge hbuilt
    obtain ⟨hrst, hmsg⟩ := finalFrame_counters t.ownRst t.ownMsg (len := s.txLen.toNat) (by omega)
      (Nat.le_of_lt (h.header_fits hbuilt))
    refine ⟨_, _, hrsp, hrst, hmsg, fun hwrap => ?_⟩
    rw [hrst, hmsg]
    exact pairLt_of_eq_nextPair hnext hwrap

/-! ### Runs of builds and FINALIZEs -/

theorem afterBuild_txLen_ne_zero (m : MsgType) (d : Half) (p : List Byte) (s : State) :
    (afterBuild m d p s).txLen ≠ 0 := by
  intro hzero
  have hlen := afterBuild_txLen_toNat m d p s
  rw [hzero, m.frameLen_eq] at hlen
  replace hlen : 0 = 12 + m.payloadLen := hlen
  omega

/-- A block in which every builder and every FINALIZE of a built message completes. -/
structure InService (s : State) : Prop where
  inv : s.Inv
  legal : s.cfg.legal = true
  initDone : s.initDone = true
  agentAnswers : s.agentAnswers = true

/-- A builder and then FINALIZE complete, and move the own counters on by one (R130, R135). -/
theorem InService.build_finalize {s : State} (hs : InService s) {i : Instr} (hbuild : isBuild i = true) :
    ∃ u t, exec i s = .next u ∧ exec .finalize u = .next t ∧ InService t ∧
      (t.ownRst, t.ownMsg) = nextPair (s.ownRst, s.ownMsg) := by
  obtain ⟨m, d, p, hparts⟩ := exists_buildParts hbuild
  have hexec := exec_of_buildParts hparts s
  have hfinalize := exec_finalize_of_built (s := afterBuild m d p s.beginCommand) hs.initDone
    (afterBuild_txLen_ne_zero m d p s.beginCommand) fun _ => hs.agentAnswers
  have hinv := exec_keeps_inv (s := afterBuild m d p s.beginCommand) hs.legal (exec_keeps_inv hs.legal hs.inv hexec)
    hfinalize
  obtain ⟨⟨hcfg, -, -, hagent, -⟩, hinit, -⟩ := commandsWriteOnlyTheirElements _ _ _ hfinalize
  exact ⟨_, _, hexec, hfinalize,
    ⟨hinv, hcfg ▸ hs.legal, (hinit (by decide)).trans hs.initDone, hagent.trans hs.agentAnswers⟩,
    afterAdvance_pair (afterBuild m d p s.beginCommand).beginCommand⟩

theorem InService.runAll_builds {s : State} (hs : InService s) {builds : List Instr}
    (hbuilds : ∀ i ∈ builds, isBuild i = true) :
    ∃ t, runAll (builds.flatMap fun i => [i, .finalize]) s = .next t ∧
      (t.ownRst, t.ownMsg) = nextPair^[builds.length] (s.ownRst, s.ownMsg) := by
  induction builds generalizing s with
  | nil => exact ⟨s, rfl, rfl⟩
  | cons i builds ih =>
    obtain ⟨hi, hrest⟩ := List.forall_mem_cons.mp hbuilds
    obtain ⟨u, v, hu, hv, hservice, hpair⟩ := hs.build_finalize hi
    obtain ⟨t, ht, hcount⟩ := ih hservice hrest
    refine ⟨t, ?_, by rw [hcount, hpair]; rfl⟩
    calc runAll (i :: .finalize :: builds.flatMap fun i => [i, .finalize]) s
        = runAll (builds.flatMap fun i => [i, .finalize]) v := by simp only [runAll, hu, hv, andThen_next]
      _ = .next t := ht

/-- Settles O25: one advance by the two cases of R136, and a run as iterated advances from message counter 0. -/
theorem finalizeCountersRunAndWrap : Obligations.FinalizeCountersRunAndWrap := by
  refine ⟨fun s t h => ?_, fun builds s hbuilds h hlegal hinit ha hmsg => ?_⟩
  · obtain rfl := eq_afterAdvance_of_advanceOwnCounters h
    exact ⟨afterAdvance_of_ne_max, fun hmax txns htxns => afterAdvance_of_max hmax htxns,
      ne_zero_of_eq_nextPair (afterAdvance_pair s)⟩
  · obtain ⟨t, ht, hcount⟩ := InService.runAll_builds ⟨h, hlegal, hinit, ha⟩ hbuilds
    refine ⟨t, ht, ?_⟩
    cases builds with
    | nil =>
      obtain ⟨hrst, hmsg'⟩ := Prod.mk.inj hcount
      exact ⟨hmsg'.trans hmsg, by rw [hrst]; simp⟩
    | cons i builds =>
      rw [hmsg, List.length_cons, nextPair_iterate_succ] at hcount
      obtain ⟨hrst, hmsg'⟩ := Prod.mk.inj hcount
      exact ⟨hmsg', hrst⟩

end Sys2Proof.Machine
end

section
/-! O27: what FINALIZE puts out is a wire frame with its own checksum, so PROCESS takes it apart again
(R80, R139 (d)). -/

namespace Sys2Proof.Machine

/-! ### From the builder to the frame put out -/

/-- The built buffer is the wire frame with zero counters, zero checksum and zero padding (R80, R130). -/
theorem State.Inv.builtTxbuf_eq_frameBytes {s : State} (h : s.Inv) (m : MsgType) (d : Half) {p : List Byte}
    (hfit : 12 + p.length ≤ s.txbuf.length) :
    builtTxbuf m d p s.txbuf = frameBytes { src := s.ownAddr, dst := d, rst := 0, msg := 0 } m.code p 0
      (List.replicate (s.txbuf.length - (12 + p.length)) 0x00) := by
  have hzeros : List.replicate (s.txbuf.length - (10 + p.length)) (0x00 : Byte) =
      halfBytes 0 ++ List.replicate (s.txbuf.length - (12 + p.length)) 0x00 := by
    rw [show s.txbuf.length - (10 + p.length) = s.txbuf.length - (12 + p.length) + 2 by omega]
    rfl
  have hheader : [magic, hi s.ownAddr, lo s.ownAddr] ++ (halfBytes d ++ (List.replicate 4 0x00 ++ (m.code :: p))) =
      headerBytes { src := s.ownAddr, dst := d, rst := 0, msg := 0 } m.code ++ p := by
    have hhi : hi 0#16 = 0#8 := rfl
    have hlo : lo 0#16 = 0#8 := rfl
    simp [headerBytes, halfBytes, List.replicate, hhi, hlo]
  rw [builtTxbuf_eq m d p (by omega), h.txbuf_fixed, hzeros, hheader, frameBytes, ← List.append_assoc]

theorem stampCounters_frameBytes (rst msg : Half) (h : WireHeader) (type : Byte) (p : List Byte) (chk : Half)
    (pad : List Byte) : stampCounters rst msg (frameBytes h type p chk pad) =
      frameBytes { h with rst := rst, msg := msg } type p chk pad := rfl

/-- Stamping writes the CRC of header and payload into the checksum field (R80, R137). -/
theorem stampChecksum_frameBytes (h : WireHeader) (type : Byte) (p : List Byte) (chk : Half) (pad : List Byte) :
    stampChecksum (12 + p.length) (frameBytes h type p chk pad) =
      frameBytes h type p (crc16 (headerBytes h type ++ p) 0 (10 + p.length)) pad := by
  have hbody : (headerBytes h type ++ p).length = 10 + p.length := by simp
  have hcrc : crc16 (frameBytes h type p chk pad) 0 (10 + p.length) =
      crc16 (headerBytes h type ++ p) 0 (10 + p.length) := by
    rw [frameBytes_eq, ← List.append_assoc, crc16, crc16, List.drop_zero, List.drop_zero, List.take_left' hbody,
      List.take_of_length_le hbody.le]
  rw [stampChecksum, show 12 + p.length - 2 = 10 + p.length by omega, hcrc, frameBytes_eq, frameBytes_eq,
    ← List.append_assoc, setBytes_append _ pad hbody (by simp), List.append_assoc]

theorem finalFrame_frameBytes (rst msg : Half) (h : WireHeader) (type : Byte) (p : List Byte) (chk : Half)
    (pad : List Byte) : finalFrame rst msg (12 + p.length) (frameBytes h type p chk pad) =
      frameBytes { h with rst := rst, msg := msg } type p
        (crc16 (headerBytes { h with rst := rst, msg := msg } type ++ p) 0 (10 + p.length)) pad := by
  rw [finalFrame, stampCounters_frameBytes, stampChecksum_frameBytes]

/-- A builder and a successful FINALIZE put out the wire frame of the built message, with the counters as they are
after it and the checksum of its header and payload (R130, R135). -/
theorem build_finalize_out {i : Instr} {m : MsgType} {d : Half} {p : List Byte} {s s1 s2 : State} {len : Byte}
    {out : List Byte} (hparts : buildParts i = some (m, d, p)) (h : s.Inv) (hB : 20 ≤ s.cfg.wireBufSize)
    (hbuild : exec i s = .next s1) (hfinalize : exec .finalize s1 = .next s2)
    (hrsp : s2.rsp = some { status := .success, results := len :: out }) {hdr : WireHeader}
    (hhdr : hdr = { src := s.ownAddr, dst := d, rst := s2.ownRst, msg := s2.ownMsg }) :
    ∃ pad, out = frameBytes hdr m.code p (crc16 (headerBytes hdr m.code ++ p) 0 (10 + p.length)) pad := by
  have hp := buildParts_payload_length hparts
  have hfit : 12 + p.length ≤ s.txbuf.length := by
    have := m.payloadLen_le
    rw [h.txbuf_length]
    omega
  rw [exec_of_buildParts hparts] at hbuild
  cases hbuild
  obtain ⟨-, hresults, -⟩ := exec_finalize_of_success hfinalize hrsp
  obtain ⟨-, rfl⟩ := List.cons.inj hresults
  rw [afterBuild_txLen_toNat, m.frameLen_eq, ← hp, show (afterBuild m d p s.beginCommand).txbuf =
    builtTxbuf m d p s.txbuf from rfl, h.builtTxbuf_eq_frameBytes m d hfit, finalFrame_frameBytes, hhdr]
  exact ⟨_, rfl⟩

/-! ### From the frame to the receive registers -/

/-- A payload staged into a cleared RX_PAYLOAD reads back from its start (R38). -/
theorem take_setBytes_replicate {p : List Byte} {n : Nat} (hp : p.length ≤ n) :
    (setBytes (List.replicate n 0x00) 0 p).take p.length = p := by
  have hsplit : List.replicate n (0x00 : Byte) =
      [] ++ (List.replicate p.length 0x00 ++ List.replicate (n - p.length) 0x00) := by
    rw [List.nil_append, List.replicate_append_replicate, Nat.add_sub_cancel' hp]
  rw [hsplit, setBytes_append p _ (by rfl) (by simp), List.nil_append, List.take_left]

/-- Settles O27: the buffer put out is the frame of the built message with its checksum, which a fresh receiver
accepts. -/
theorem builtMessageIsReceivedAsBuilt : Obligations.BuiltMessageIsReceivedAsBuilt := by
  intro i ty dest payload s s1 s2 r len out hparts h hlegal hbuild hfinalize hrsp hr _ _ hinit ha hdst hfresh
  obtain ⟨pad, hout⟩ := build_finalize_out hparts h (Config.wireBufSize_of_legal hlegal) hbuild hfinalize hrsp rfl
  have hp := buildParts_payload_length hparts
  have hreceives : Receives r { src := s.ownAddr, dst := dest, rst := s2.ownRst, msg := s2.ownMsg } :=
    ⟨hinit, ha, hr.count_le, hdst⟩
  obtain ⟨r', hexec, hrsp', hvalid, -, hsrc, hdst', hrst, hmsg, htype, hpayload⟩ :=
    hreceives.exec_accepted hfresh (i := .process out) (congrArg some hout) hp rfl
  refine ⟨r', hexec, by rw [State.succeeded, hrsp']; rfl, hvalid, hsrc, hdst', hrst, hmsg, htype, ?_⟩
  have hpn := ty.payloadLen_le
  rw [hpayload, ← hp, take_setBytes_replicate (by omega)]

end Sys2Proof.Machine
end

section
/-! O28 to O32, O34: PROCESS as one exact next state per branch (R150 to R158). A frame that reaches the freshness check
ends in the state the check leaves, with the receive registers written: its type, its checksum and the check's outcome
give the verdict. -/

namespace Sys2Proof.Machine

/-! ### The wire rows -/

/-- Whatever row a wire buffer is read as, it is the buffer of that row (R80, R84 to R88). -/
theorem processBuffer_decodeProcess (f : List Byte) : processBuffer (decodeProcess f) = some f := by
  fun_cases decodeProcess f
  case case1 | case3 | case5 | case7 | case9 =>
    simp +zetaDelta [processBuffer, beaconFrame, set1Frame, set2Frame, set3Frame, deviceStatusFrame, frameBytes,
      headerBytes, beaconPayload, set1Payload, set2Payload, set3Payload, wordBytes_be32]
  all_goals rfl

/-- Settles O34: the row a buffer decodes to runs as PROCESS of its buffer, which is the one decoded. -/
theorem wireRowsRunAsProcess : Obligations.WireRowsRunAsProcess := by
  intro b frame s _ hlen
  have hdecode : decode b (0x20 :: frame) = decodeProcess frame := by simp [decode, decodeOperands, hlen]
  rw [hdecode, exec_of_processBuffer (processBuffer_decodeProcess frame), exec_of_processBuffer rfl]

/-! ### The branches before the freshness check -/

theorem destinationOk_eq_false_iff (own dst : Half) :
    destinationOk own dst = false ↔ dst ≠ own ∧ dst ≠ broadcast := by
  rw [← Bool.not_eq_true, destinationOk_iff, not_or]

theorem exec_process_of_not_init (f : List Byte) {s : State} (hinit : s.initDone = false) :
    exec (.process f) s = .next (s.beginCommand.respond .notInitialized []) := by
  simp [exec, execProcess, processFrame, hinit, raise]

theorem exec_process_of_badMagic {f : List Byte} {s : State} (hinit : s.initDone = true) (hmagic : byteAt f 0 ≠ magic) :
    exec (.process f) s = .next (s.beginCommand.clearRx.zeroHeader.respond .invalidBuffer []) := by
  simp [exec, execProcess, processFrame, hinit, hmagic, raise]

theorem exec_process_of_misdirected {f : List Byte} {s : State} (hinit : s.initDone = true)
    (hmagic : byteAt f 0 = magic) (hdst : frameDst f ≠ s.ownAddr ∧ frameDst f ≠ broadcast) :
    exec (.process f) s = .next ((s.beginCommand.clearRx.loadHeader f).respond .wrongDestination []) := by
  have hfilter := (destinationOk_eq_false_iff s.ownAddr (frameDst f)).mpr hdst
  simp [exec, execProcess, processFrame, hinit, hmagic, hfilter, raise]

/-! ### The verdict and the staged payload -/

/-- RX_PAYLOAD after steps 5 and 6, which fill it from all zeros (R155). -/
def stagedPayload (f : List Byte) : List Byte :=
  match MsgType.ofByte (frameType f) with
  | none => List.replicate 8 0x00
  | some m => setBytes (List.replicate 8 0x00) 0 (framePayload f m.payloadLen)

/-- The status of a frame with freshness outcome `v`: type, then checksum, then outcome (R157). -/
def verdict (f : List Byte) (v : Status) : Status :=
  match MsgType.ofByte (frameType f) with
  | none => .unknownType
  | some m => if checksumOk f m.payloadLen then (if v.accepting then .success else v) else .checksumMismatch

@[simp] theorem stagedPayload_length (f : List Byte) : (stagedPayload f).length = 8 := by
  unfold stagedPayload
  split <;> simp

theorem stagedPayload_of_unknownType {f : List Byte} (htype : MsgType.ofByte (frameType f) = none) :
    stagedPayload f = List.replicate 8 0x00 := by
  simp only [stagedPayload, htype]

theorem verdict_of_unknownType {f : List Byte} (htype : MsgType.ofByte (frameType f) = none) (v : Status) :
    verdict f v = .unknownType := by
  simp only [verdict, htype]

theorem verdict_of_type {f : List Byte} {m : MsgType} (htype : MsgType.ofByte (frameType f) = some m) (v : Status) :
    verdict f v = if crc16 f 0 (10 + m.payloadLen) ≠ frameChk f m.payloadLen then .checksumMismatch
      else if v.accepting then .success else v := by
  by_cases hchk : crc16 f 0 (10 + m.payloadLen) = frameChk f m.payloadLen <;>
    simp [verdict, htype, checksumOk, headerLen, hchk]

theorem decide_verdict_eq_success {f : List Byte} {m : MsgType} (htype : MsgType.ofByte (frameType f) = some m)
    (v : Status) : decide (verdict f v = .success) =
      (decide (crc16 f 0 (10 + m.payloadLen) = frameChk f m.payloadLen) && v.accepting) := by
  rw [verdict_of_type htype]
  by_cases hchk : crc16 f 0 (10 + m.payloadLen) = frameChk f m.payloadLen
  · cases v <;> simp [hchk, Status.accepting]
  · simp [hchk]

/-- Bytes written from the start of a zero buffer, the rest staying zero. -/
theorem setBytes_replicate_zero {p : List Byte} {n : Nat} (hp : p.length ≤ n) :
    setBytes (List.replicate n 0x00) 0 p = p ++ List.replicate (n - p.length) 0x00 := by
  have hsplit : List.replicate n (0x00 : Byte) =
      [] ++ (List.replicate p.length 0x00 ++ List.replicate (n - p.length) 0x00) := by
    rw [List.nil_append, List.replicate_append_replicate, Nat.add_sub_cancel' hp]
  rw [hsplit, setBytes_append p _ (by rfl) (by simp), List.nil_append]

/-- With 20 bytes or more the buffer of a supported type holds its whole payload (R8, R81). -/
theorem stagedPayload_of_type {f : List Byte} {m : MsgType} (htype : MsgType.ofByte (frameType f) = some m)
    (hlen : 20 ≤ f.length) :
    stagedPayload f = (f.drop 10).take m.payloadLen ++ List.replicate (8 - m.payloadLen) 0x00 := by
  have hm := m.payloadLen_le
  have hp : (framePayload f m.payloadLen).length = m.payloadLen := by simp [framePayload, headerLen]; omega
  simp only [stagedPayload, htype]
  rw [setBytes_replicate_zero (by omega), hp, framePayload, headerLen]

/-- No byte is staged past the payload of the frame's type, however short the buffer (R151). -/
theorem byteAt_stagedPayload_eq_zero {f : List Byte} {m : MsgType} (htype : MsgType.ofByte (frameType f) = some m)
    {k : Nat} (hk : m.payloadLen ≤ k) : byteAt (stagedPayload f) k = 0x00 := by
  have hp := framePayload_length_le f m.payloadLen
  simp only [stagedPayload, htype]
  rw [byteAt_setBytes, if_neg (by omega), byteAt_replicate_zero]

/-! ### The branch of the freshness check -/

/-- The receive registers and the response after a frame with freshness outcome `v` (R154 to R158). -/
def State.received (f : List Byte) (v : Status) (s : State) : State :=
  { s with
    rxSrc := frameSrc f, rxDst := frameDst f, rxRst := frameRst f, rxMsg := frameMsg f, rxType := frameType f
    rxValidation := v
    rxPayload := stagedPayload f
    rxValid := decide (verdict f v = .success)
    rsp := some { status := verdict f v, results := [] } }

/-- Steps 5 to 8 after the clears, the extraction and the freshness check (R155 to R157). -/
theorem judged_eq_received (f : List Byte) (v : Status) (s : State) :
    judged f v ((s.clearRx.loadHeader f).recordValidation v) = s.received f v := by
  unfold judged State.received verdict stagedPayload
  rw [State.recordValidation_rxType, State.loadHeader_rxType]
  cases MsgType.ofByte (frameType f) with
  | none => rfl
  | some m =>
    simp only [State.respond, State.stagePayload, State.markValid, State.recordValidation, State.loadHeader,
      State.clearRx]
    by_cases hchk : checksumOk f m.payloadLen = true
    · by_cases hv : v.accepting = true
      · simp [hchk, hv]
      · have hne : v ≠ .success := fun h => hv (h ▸ rfl)
        simp [hchk, hv, hne]
    · simp [hchk]

/-- The freshness check neither reads nor writes the receive registers (R170). -/
theorem afterCheck_loadHeader (a r m : Half) (f : List Byte) (s : State) :
    afterCheck a r m (s.clearRx.loadHeader f) = (afterCheck a r m s).clearRx.loadHeader f := by
  have hrow : classify a r m (s.clearRx.loadHeader f) = classify a r m s := classify_congr rfl rfl rfl rfl rfl a r m
  rw [afterCheck, afterCheck, hrow]
  cases classify a r m s <;> rfl

/-- The outcome of the freshness check of frame `f` (R179). -/
def frameFreshness (f : List Byte) (s : State) : Status :=
  (classify (frameSrc f) (frameRst f) (frameMsg f) s).status

/-- The state PROCESS leaves of a frame that reaches the freshness check (R154 to R158). -/
def afterProcess (f : List Byte) (s : State) : State :=
  (afterCheck (frameSrc f) (frameRst f) (frameMsg f) s.beginCommand).received f (frameFreshness f s)

theorem afterFreshness_eq_afterProcess (f : List Byte) (s : State) :
    afterFreshness f (s.beginCommand.clearRx.loadHeader f) = afterProcess f s := by
  rw [afterFreshness, State.loadHeader_rxSrc, State.loadHeader_rxRst, State.loadHeader_rxMsg, classify_loadHeader,
    afterCheck_loadHeader, judged_eq_received]
  rfl

/-- The freshness check completes when the storage agent answers (R54, R178). -/
theorem checkAndUpdate_completes {s : State} (hcount : s.peerCount.toNat ≤ s.cfg.peerCapacity)
    (ha : s.agentAnswers = true) (a r m : Half) : checkAndUpdate a r m s = .next (afterCheck a r m s) :=
  (checkAndUpdate_eq_next hcount).mpr ⟨fun _ => ha, rfl⟩

theorem exec_process_of_checked {f : List Byte} {s : State} (hinit : s.initDone = true) (ha : s.agentAnswers = true)
    (hcount : s.peerCount.toNat ≤ s.cfg.peerCapacity) (hmagic : byteAt f 0 = magic)
    (hdst : frameDst f = s.ownAddr ∨ frameDst f = broadcast) : exec (.process f) s = .next (afterProcess f s) :=
  calc exec (.process f) s = checkFreshness f (s.beginCommand.clearRx.loadHeader f) :=
        processFrame_fresh (s := s.beginCommand) hinit hmagic ((destinationOk_iff _ _).mpr hdst)
    _ = .next (afterFreshness f (s.beginCommand.clearRx.loadHeader f)) :=
        checkFreshness_completes (s := s.beginCommand.clearRx.loadHeader f) hcount ha f
    _ = .next (afterProcess f s) := by rw [afterFreshness_eq_afterProcess]

/-- The ways a PROCESS after INIT that completes ends, whether or not the agent had to answer (R150). -/
theorem exec_process_cases {f : List Byte} {s t : State} (hinit : s.initDone = true)
    (h : exec (.process f) s = .next t) :
    (byteAt f 0 ≠ magic ∧ t = s.beginCommand.clearRx.zeroHeader.respond .invalidBuffer []) ∨
    (byteAt f 0 = magic ∧ t = (s.beginCommand.clearRx.loadHeader f).respond .wrongDestination []) ∨
    (byteAt f 0 = magic ∧ (frameDst f = s.ownAddr ∨ frameDst f = broadcast) ∧ t = afterProcess f s) := by
  rcases processFrame_cases (s := s.beginCommand) h with
    ⟨hnot, -⟩ | ⟨-, hmagic, ht⟩ | ⟨-, hmagic, -, ht⟩ | ⟨-, hmagic, hdst, hfresh⟩
  · exact absurd (hinit.symm.trans hnot) (by decide)
  · exact .inl ⟨hmagic, ht⟩
  · exact .inr (.inl ⟨hmagic, ht⟩)
  · refine .inr (.inr ⟨hmagic, (destinationOk_iff _ _).mp hdst, ?_⟩)
    rw [eq_afterFreshness_of_checkFreshness hfresh, afterFreshness_eq_afterProcess]

/-! ### Gate, magic byte, destination -/

/-- Settles O28, by the ways PROCESS ends: the early ends clear, and the last stages the payload of the frame's type. -/
theorem processGateAndClears : Obligations.ProcessGateAndClears := by
  refine ⟨fun frame s hinit => exec_process_of_not_init frame hinit, fun frame s t hinit h => ?_⟩
  rcases exec_process_cases hinit h with ⟨-, rfl⟩ | ⟨-, rfl⟩ | ⟨hmagic, hdst, rfl⟩
  · exact ⟨rfl, rfl, fun k _ => byteAt_replicate_zero 8 k, fun _ => ⟨rfl, rfl⟩⟩
  · exact ⟨rfl, rfl, fun k _ => byteAt_replicate_zero 8 k, fun _ => ⟨rfl, rfl⟩⟩
  · refine ⟨rfl, stagedPayload_length frame, fun k hk => ?_, ?_⟩
    · change byteAt (stagedPayload frame) k = 0x00
      cases htype : MsgType.ofByte (frameType frame) with
      | none => rw [stagedPayload_of_unknownType htype, byteAt_replicate_zero]
      | some m =>
        rw [htype] at hk
        exact byteAt_stagedPayload_eq_zero htype hk
    · rintro (hbad | ⟨hown, hbroadcast⟩)
      · exact absurd hmagic hbad
      · exact absurd hdst (not_or.mpr ⟨hown, hbroadcast⟩)

/-- Every query answers zeros while the registers they read are zero (R204 to R209). -/
theorem exec_query_of_zeroed {t : State} (hsrc : t.rxSrc = 0) (hdst : t.rxDst = 0) (hrst : t.rxRst = 0)
    (hmsg : t.rxMsg = 0) (htype : t.rxType = 0) (hval : t.rxValidation = .none) {q : Instr}
    (hq : q ∈ [Instr.queryRxSrc, .queryRxDst, .queryRxType, .queryRxRst, .queryRxMsg, .queryRxValidation]) :
    ∃ u r, exec q t = .next u ∧ u.rsp = some r ∧ r.status = .success ∧ ∀ b ∈ r.results, b = 0x00 := by
  have hhalf : ∀ b ∈ halfBytes 0, b = 0x00 := fun _ => List.eq_of_mem_replicate (n := 2)
  simp only [List.mem_cons, List.not_mem_nil, or_false] at hq
  rcases hq with rfl | rfl | rfl | rfl | rfl | rfl
  · exact ⟨_, _, rfl, rfl, rfl, hsrc ▸ hhalf⟩
  · exact ⟨_, _, rfl, rfl, rfl, hdst ▸ hhalf⟩
  · exact ⟨_, _, rfl, rfl, rfl, by simp [htype]⟩
  · exact ⟨_, _, rfl, rfl, rfl, hrst ▸ hhalf⟩
  · exact ⟨_, _, rfl, rfl, rfl, hmsg ▸ hhalf⟩
  · exact ⟨_, _, rfl, rfl, rfl, by simp [hval, Status.code]⟩

/-- Settles O29: the bad-magic branch zeroes what the queries read, and the two others load the header. -/
theorem magicCheckAndExtraction : Obligations.MagicCheckAndExtraction := by
  refine ⟨fun frame s hinit hmagic => ?_, fun frame s t hinit hmagic h => ?_⟩
  · rw [exec_process_of_badMagic hinit hmagic]
    refine ⟨rfl, fun t ht q hq => ?_⟩
    cases ht
    exact exec_query_of_zeroed rfl rfl rfl rfl rfl rfl hq
  · rcases exec_process_cases hinit h with ⟨hbad, -⟩ | ⟨-, rfl⟩ | ⟨-, -, rfl⟩
    · exact absurd hmagic hbad
    · exact ⟨rfl, rfl, rfl, rfl, rfl⟩
    · exact ⟨rfl, rfl, rfl, rfl, rfl⟩

/-- Settles O30: the filter's branch, which address 0x0000 always takes, since it is neither own nor broadcast. -/
theorem destinationCheckComesFirst : Obligations.DestinationCheckComesFirst := by
  refine ⟨fun frame s hinit hmagic hown hbroadcast => ?_, fun frame s t hinit hmagic haddr hzero h => ?_⟩
  · rw [exec_process_of_misdirected hinit hmagic ⟨hown, hbroadcast⟩]
    rfl
  · have hdst : frameDst frame ≠ s.ownAddr ∧ frameDst frame ≠ broadcast := by
      rw [hzero]
      exact ⟨haddr.symm, by decide⟩
    cases (exec_process_of_misdirected hinit hmagic hdst).symm.trans h
    rfl

/-! ### Freshness, type, checksum -/

/-- Settles O31: the state of `exec_process_of_checked`, its payload and verdict written out by the frame's type. -/
theorem freshnessThenTypeThenChecksum : Obligations.FreshnessThenTypeThenChecksum := by
  intro frame s hinit ha hcount hlen hmagic hdst
  refine ⟨_, checkAndUpdate_completes (s := s.beginCommand) hcount ha _ _ _, ?_⟩
  rintro _ rfl
  rw [exec_process_of_checked hinit ha hcount hmagic hdst, afterProcess, State.received]
  cases htype : MsgType.ofByte (frameType frame) with
  | none => rw [verdict_of_unknownType htype, stagedPayload_of_unknownType htype]; rfl
  | some m =>
    rw [decide_verdict_eq_success htype, verdict_of_type htype, stagedPayload_of_type htype hlen]
    rfl

/-! ### The table of outcomes -/

theorem Status.accepting_iff (v : Status) : v.accepting = true ↔ v = .success ∨ v = .addedNewAddress := by
  cases v <;> simp [Status.accepting]

/-- A rejecting freshness check leaves every element as it was (R173, R175, R177). -/
theorem afterCheck_of_rejecting {a r m : Half} {s : State} (h : (classify a r m s).status.accepting = false) :
    afterCheck a r m s = s := by
  rw [afterCheck, updateTable_of_rejecting h]
  cases hrow : classify a r m s with
  | add | restart _ | advance _ => rw [hrow] at h; cases h
  | full | stale | replay => simp [Freshness.txns, afterTxns, commitFold]

/-- No freshness outcome is a status PROCESS answers on other grounds (R179). -/
theorem Freshness.status_ne (row : Freshness) : row.status ≠ .notInitialized ∧ row.status ≠ .invalidBuffer ∧
    row.status ≠ .wrongDestination ∧ row.status ≠ .unknownType := by
  cases row <;> simp [Freshness.status]

/-- A verdict is an unknown type, or of a supported type a checksum mismatch, a success or a rejection (R157). -/
theorem verdict_cases (f : List Byte) (v : Status) :
    (MsgType.ofByte (frameType f) = none ∧ verdict f v = .unknownType) ∨
    ∃ m, MsgType.ofByte (frameType f) = some m ∧
      (verdict f v = .checksumMismatch ∨ verdict f v = .success ∨ (v.accepting = false ∧ verdict f v = v)) := by
  cases htype : MsgType.ofByte (frameType f) with
  | none => exact .inl ⟨rfl, verdict_of_unknownType htype v⟩
  | some m =>
    refine .inr ⟨m, rfl, ?_⟩
    rw [verdict_of_type htype]
    split
    · exact .inl rfl
    · split
      · exact .inr (.inl rfl)
      · next hreject => exact .inr (.inr ⟨Bool.eq_false_iff.mpr hreject, rfl⟩)

/-- A verdict is none of the statuses PROCESS answers before the freshness check (R157). -/
theorem verdict_ne_early (f : List Byte) (row : Freshness) : verdict f row.status ≠ .notInitialized ∧
    verdict f row.status ≠ .invalidBuffer ∧ verdict f row.status ≠ .wrongDestination := by
  obtain ⟨hgate, hbuffer, hfilter, -⟩ := row.status_ne
  rcases verdict_cases f row.status with ⟨-, h⟩ | ⟨-, -, h | h | ⟨-, h⟩⟩
  · simp [h]
  · simp [h]
  · simp [h]
  · exact h.symm ▸ ⟨hgate, hbuffer, hfilter⟩

theorem verdict_eq_unknownType_iff (f : List Byte) (row : Freshness) :
    verdict f row.status = .unknownType ↔ MsgType.ofByte (frameType f) = none := by
  rcases verdict_cases f row.status with ⟨htype, h⟩ | ⟨m, htype, h | h | ⟨-, h⟩⟩
  · simp [htype, h]
  · simp [htype, h]
  · simp [htype, h]
  · simp [htype, h, row.status_ne]

/-- Any other verdict than these three is a freshness error (R157). -/
theorem rejecting_of_verdict {f : List Byte} {v : Status}
    (h : verdict f v ∉ [Status.unknownType, .checksumMismatch, .success]) : v.accepting = false := by
  rcases verdict_cases f v with ⟨-, heq⟩ | ⟨-, -, heq | heq | ⟨hreject, -⟩⟩
  · simp [heq] at h
  · simp [heq] at h
  · simp [heq] at h
  · exact hreject

/-- A frame rejected for its freshness writes the receive registers and the response alone (R158). -/
theorem afterProcess_of_rejected {f : List Byte} {s : State}
    (h : verdict f (frameFreshness f s) ∉ [Status.unknownType, .checksumMismatch, .success]) :
    afterProcess f s = s.beginCommand.received f (frameFreshness f s) := by
  rw [afterProcess, afterCheck_of_rejecting (s := s.beginCommand) (rejecting_of_verdict h)]

/-- Settles O32, branch by branch: the early ends by their exact states, the last by what its verdict says. -/
theorem processOutcomeTable : Obligations.ProcessOutcomeTable := by
  intro frame s v st ha hcount hlen hv hst
  by_cases hinit : s.initDone = false
  · rw [if_pos hinit] at hst
    subst hst
    exact ⟨_, exec_process_of_not_init frame hinit, rfl, by simp [State.beginCommand, State.respond]⟩
  by_cases hmagic : byteAt frame 0 ≠ 0xAA
  · rw [if_neg hinit, if_pos hmagic] at hst
    subst hst
    exact ⟨_, exec_process_of_badMagic (by simpa using hinit) hmagic, rfl, by simp⟩
  by_cases hdst : frameDst frame ≠ s.ownAddr ∧ frameDst frame ≠ 0xFFFF
  · rw [if_neg hinit, if_neg hmagic, if_pos hdst] at hst
    subst hst
    exact ⟨_, exec_process_of_misdirected (by simpa using hinit) (not_not.mp hmagic) hdst, rfl, by simp⟩
  · rw [if_neg hinit, if_neg hmagic, if_neg hdst] at hst
    have hexec := exec_process_of_checked (f := frame) (by simpa using hinit) ha hcount (not_not.mp hmagic)
      (Decidable.or_iff_not_not_and_not.mpr hdst)
    have hverdict : st = verdict frame v := by
      rw [hst]
      cases htype : MsgType.ofByte (frameType frame) with
      | none => exact (verdict_of_unknownType htype v).symm
      | some m => simp only [verdict_of_type htype, Status.accepting_iff]
    subst hverdict hv
    obtain ⟨hgate, hbuffer, hfilter⟩ :=
      verdict_ne_early frame (classify (frameSrc frame) (frameRst frame) (frameMsg frame) s)
    refine ⟨_, hexec, rfl, fun h => absurd h hgate, fun h => absurd h hbuffer, fun _ _ => ⟨rfl, rfl, rfl, rfl, rfl⟩,
      fun h => absurd h (not_or.mpr ⟨hbuffer, hfilter⟩), fun _ => rfl, fun h => ?_, fun h => ?_, fun _ => rfl,
      fun h => ?_, fun _ => ⟨_, checkAndUpdate_completes (s := s.beginCommand) hcount ha _ _ _, rfl, rfl, rfl, rfl,
        rfl, rfl, rfl⟩⟩
    · have hunknown := (h.resolve_left hbuffer).resolve_left hfilter
      exact stagedPayload_of_unknownType ((verdict_eq_unknownType_iff frame _).mp hunknown)
    · have hknown : MsgType.ofByte (frameType frame) ≠ none := fun hnone =>
        h (by simp [(verdict_eq_unknownType_iff frame _).mpr hnone])
      obtain ⟨m, htype⟩ := Option.ne_none_iff_exists'.mp hknown
      exact ⟨m, htype, stagedPayload_of_type htype hlen⟩
    · rw [afterProcess_of_rejected h]
      exact ⟨rfl, rfl, rfl, rfl, rfl, rfl, rfl⟩

end Sys2Proof.Machine
end

section
/-! The comparator's rows as equations, and commands of a block after INIT: what every run of them keeps. -/

namespace Sys2Proof.Machine

/-! ### The comparator -/

/-- The addresses the table holds (R31, R32). -/
def State.knownAddrs (s : State) : List Half := s.peerAddr.take s.peerCount.toNat

theorem lookup_eq_none_iff_not_mem {s : State} {a : Half} : lookup s a = none ↔ a ∉ s.knownAddrs := by
  rw [lookup, State.knownAddrs, List.findIdx?_eq_none_iff]
  simp only [beq_eq_false_iff_ne]
  exact ⟨fun h hmem => h a hmem rfl, fun h x hx heq => h (heq ▸ hx)⟩

/-- An unknown source is added while the table has room (R172). -/
theorem classify_of_unknown_room {a r m : Half} {s : State} (hfound : lookup s a = none)
    (hroom : s.peerCount.toNat < s.cfg.peerCapacity) : classify a r m s = .add := by
  simp only [classify, hfound, if_pos hroom]

/-- An unknown source is rejected once the table is full (R173). -/
theorem classify_of_unknown_full {a r m : Half} {s : State} (hfound : lookup s a = none)
    (hfull : s.peerCount.toNat = s.cfg.peerCapacity) : classify a r m s = .full := by
  simp only [classify, hfound, if_neg (Nat.not_lt_of_le hfull.ge)]

section
variable {a r m : Half} {s : State} {i : Nat} (hfound : lookup s a = some i)
include hfound

theorem classify_of_higher_rst (hrst : s.peerRst.getD i 0 < r) : classify a r m s = .restart i := by
  simp only [classify, hfound, if_pos hrst]

theorem classify_of_lower_rst (hrst : r < s.peerRst.getD i 0) : classify a r m s = .stale := by
  simp only [classify, hfound, if_neg (BitVec.lt_asymm hrst), if_pos hrst]

theorem classify_of_higher_msg (hrst : r = s.peerRst.getD i 0) (hmsg : s.peerMsg.getD i 0 < m) :
    classify a r m s = .advance i := by
  simp only [classify, hfound, hrst, if_neg (BitVec.lt_irrefl _), if_pos hmsg]

theorem classify_of_msg_not_higher (hrst : r = s.peerRst.getD i 0) (hmsg : m ≤ s.peerMsg.getD i 0) :
    classify a r m s = .replay := by
  simp only [classify, hfound, hrst, if_neg (BitVec.lt_irrefl _), if_neg (BitVec.not_lt.mpr hmsg)]

/-- A pair not above the one held is rejected (R175, R177, R180). -/
theorem classify_rejects_of_pairLe (hpair : pairLe r m (s.peerRst.getD i 0) (s.peerMsg.getD i 0)) :
    (classify a r m s).status.accepting = false := by
  rcases hpair with hrst | ⟨hrst, hmsg⟩
  · rw [classify_of_lower_rst hfound hrst]; rfl
  · rw [classify_of_msg_not_higher hfound hrst hmsg]; rfl

end

/-! ### Commands after INIT -/

/-- A block of a legal configuration whose INIT is done, between two commands. -/
structure Initialised (s : State) : Prop where
  inv : s.Inv
  legal : s.cfg.legal = true
  initDone : s.initDone = true

/-- Nothing but power-on clears INIT_DONE (R25). -/
theorem exec_keeps_initDone {i : Instr} {s t : State} (hinit : s.initDone = true) (h : exec i s = .next t) :
    t.initDone = true := by
  by_cases hi : i = .init
  · subst hi
    cases exec_effect h with
    | answered => exact hinit
    | initialized => rfl
    | built hparts => cases hparts
    | badMagic hproc | misdirected _ hproc | checked _ hproc => cases hproc
  · obtain ⟨-, hkeep, -⟩ := commandsWriteOnlyTheirElements _ _ _ h
    exact (hkeep hi).trans hinit

theorem exec_cfg {i : Instr} {s t : State} (h : exec i s = .next t) : t.cfg = s.cfg := by
  obtain ⟨⟨hcfg, -⟩, -⟩ := commandsWriteOnlyTheirElements _ _ _ h
  exact hcfg

theorem exec_ownAddr {i : Instr} {s t : State} (h : exec i s = .next t) : t.ownAddr = s.ownAddr := by
  obtain ⟨⟨-, hown, -⟩, -⟩ := commandsWriteOnlyTheirElements _ _ _ h
  exact hown

theorem Initialised.exec {i : Instr} {s t : State} (hs : Initialised s) (h : exec i s = .next t) : Initialised t where
  inv := exec_keeps_inv hs.legal hs.inv h
  legal := exec_cfg h ▸ hs.legal
  initDone := exec_keeps_initDone hs.initDone h

/-- What every command after INIT keeps, every run of commands keeps. -/
theorem runAll_keeps {P : State → Prop}
    (hkeep : ∀ {i s t}, Initialised s → P s → exec i s = .next t → P t) {run : List Instr} {s t : State}
    (hs : Initialised s) (hP : P s) (h : runAll run s = .next t) : Initialised t ∧ P t := by
  induction run generalizing s with
  | nil =>
    cases h
    exact ⟨hs, hP⟩
  | cons i run ih =>
    obtain ⟨u, hu, hrest⟩ := andThen_eq_next.mp h
    exact ih (hs.exec hu) (hkeep hs hP hu) hrest

/-! ### PROCESS of a frame the freshness check rejects -/

theorem eq_afterProcess_of_exec_process {f : List Byte} {s t : State} (hinit : s.initDone = true)
    (hmagic : byteAt f 0 = magic) (hdst : frameDst f = s.ownAddr ∨ frameDst f = broadcast)
    (h : exec (.process f) s = .next t) : t = afterProcess f s := by
  have hfresh := processFrame_fresh (s := s.beginCommand) hinit hmagic ((destinationOk_iff _ _).mpr hdst)
  rw [← afterFreshness_eq_afterProcess]
  exact eq_afterFreshness_of_checkFreshness (hfresh.symm.trans h)

/-- A verdict is a success for an accepting freshness outcome only (R157). -/
theorem verdict_ne_success_of_rejecting {v : Status} (hreject : v.accepting = false) (f : List Byte) :
    verdict f v ≠ .success := by
  have hv : v ≠ .success := by rintro rfl; cases hreject
  cases htype : MsgType.ofByte (frameType f) with
  | none => rw [verdict_of_unknownType htype]; decide
  | some m =>
    rw [verdict_of_type htype, hreject]
    split
    · decide
    · exact hv

/-- Whatever check ends it, PROCESS of a frame that is not fresh does not accept it (R157, R158). -/
theorem exec_process_of_rejecting {f : List Byte} {s t : State} (hinit : s.initDone = true)
    (hreject : (frameFreshness f s).accepting = false) (h : exec (.process f) s = .next t) :
    t.rxValidation.accepting = false ∧ t.succeeded = false ∧ t.rxValid = false := by
  rcases exec_process_cases hinit h with ⟨-, rfl⟩ | ⟨-, rfl⟩ | ⟨-, -, rfl⟩
  · exact ⟨rfl, rfl, rfl⟩
  · exact ⟨rfl, rfl, rfl⟩
  · have hverdict := verdict_ne_success_of_rejecting hreject f
    refine ⟨hreject, ?_, decide_eq_false hverdict⟩
    exact beq_eq_false_iff_ne.mpr fun heq => hverdict (Option.some.inj heq)

/-- A PROCESS that leaves an accepting outcome ran the freshness check, which accepted (R154). -/
theorem exec_process_of_accepting {f : List Byte} {s t : State} (h : s.Inv)
    (hexec : exec (.process f) s = .next t) (haccept : t.rxValidation.accepting = true) :
    s.initDone = true ∧ (frameFreshness f s).accepting = true ∧ t = afterProcess f s := by
  cases hinit : s.initDone with
  | false =>
    obtain ⟨-, -, -, -, -, -, -, -, hnone⟩ := h.before_init hinit
    cases (exec_process_of_not_init f hinit).symm.trans hexec
    rw [show (s.beginCommand.respond .notInitialized []).rxValidation = .none from hnone] at haccept
    cases haccept
  | true =>
    rcases exec_process_cases hinit hexec with ⟨-, rfl⟩ | ⟨-, rfl⟩ | ⟨-, -, rfl⟩
    · cases haccept
    · cases haccept
    · exact ⟨rfl, haccept, rfl⟩

end Sys2Proof.Machine
end

section
/-! O40: the accepted pair is held by the table, and what the table holds only grows (R180). -/

namespace Sys2Proof.Machine

theorem pairLe_trans {r₁ m₁ r₂ m₂ r₃ m₃ : Half} (h : pairLe r₁ m₁ r₂ m₂) (h' : pairLe r₂ m₂ r₃ m₃) :
    pairLe r₁ m₁ r₃ m₃ := by
  rcases h with hlt | ⟨rfl, hle⟩
  · rcases h' with hlt' | ⟨rfl, -⟩
    · exact .inl (BitVec.lt_trans hlt hlt')
    · exact .inl hlt
  · exact h'.imp_right (And.imp_right (BitVec.le_trans hle))

theorem pairLe_of_eq {r m r' m' : Half} (hr : r' = r) (hm : m' = m) : pairLe r m r' m' :=
  hr ▸ hm ▸ pairLe_refl r' m'

/-- The entry found for source `a` holds a pair not below `(r, m)`. -/
def pairHeld (a r m : Half) (s : State) : Prop :=
  ∃ k, lookup s a = some k ∧ pairLe r m (s.peerRst.getD k 0) (s.peerMsg.getD k 0)

/-- A held pair, and every lower one, is rejected (R180). -/
theorem pairHeld.rejects {a r m r' m' : Half} {s : State} (h : pairHeld a r m s) (hle : pairLe r' m' r m) :
    (classify a r' m' s).status.accepting = false := by
  obtain ⟨k, hfound, hheld⟩ := h
  exact classify_rejects_of_pairLe hfound (pairLe_trans hle hheld)

/-- A command keeps the index a source is found at (R31, R171). -/
theorem exec_keeps_lookup {i : Instr} {s t : State} (hs : Initialised s) (h : exec i s = .next t) {a : Half} {k : Nat}
    (hfound : lookup s a = some k) : lookup t a = some k := by
  obtain ⟨hk, -, haddr, hfirst⟩ := lookup_eq_some.mp hfound
  obtain ⟨hcount, hentry⟩ := peerTableOnlyMovesForward i s t hs.inv hs.legal hs.initDone h
  have ht := (hs.exec h).inv
  have hkt : k < t.peerCount.toNat := Nat.lt_of_lt_of_le hk hcount
  refine lookup_eq_some.mpr ⟨hkt, ht.peer_lengths.1 ▸ Nat.lt_of_lt_of_le hkt ht.count_le,
    (hentry k hk).1.trans haddr, fun j hj => ?_⟩
  rw [(hentry j (Nat.lt_trans hj hk)).1]
  exact hfirst j hj

theorem exec_keeps_pairHeld {a r m : Half} {i : Instr} {s t : State} (hs : Initialised s) (hheld : pairHeld a r m s)
    (h : exec i s = .next t) : pairHeld a r m t := by
  obtain ⟨k, hfound, hle⟩ := hheld
  obtain ⟨hk, -⟩ := lookup_eq_some.mp hfound
  obtain ⟨-, hentry⟩ := peerTableOnlyMovesForward i s t hs.inv hs.legal hs.initDone h
  obtain ⟨-, hgrows, -⟩ := hentry k hk
  exact ⟨k, exec_keeps_lookup hs h hfound, pairLe_trans hle hgrows⟩

/-- The lookup finds an added peer at the old count (R171, R172). -/
theorem lookup_of_added {a : Half} {s t : State} (hcount : t.peerCount.toNat = s.peerCount.toNat + 1)
    (haddr : t.peerAddr = s.peerAddr.set s.peerCount.toNat a) (hroom : s.peerCount.toNat < s.peerAddr.length)
    (hfound : lookup s a = none) : lookup t a = some s.peerCount.toNat := by
  refine lookup_eq_some.mpr ⟨by omega, by rw [haddr, List.length_set]; exact hroom, ?_, fun j hj => ?_⟩
  · rw [haddr, getD_set_self a hroom]
  · rw [haddr, getD_set_of_ne _ a (by omega)]
    exact lookup_eq_none.mp hfound j hj (by omega)

/-- A freshness check that accepts leaves the pair it accepted in the table, row by row (R172, R174, R177). -/
theorem afterCheck_pairHeld {a r m : Half} {s : State} (h : s.Inv) (hP : s.cfg.peerCapacity ≤ 255)
    (haccept : (classify a r m s).status.accepting = true) : pairHeld a r m (afterCheck a r m s) := by
  obtain ⟨hlenA, hlenR, hlenM⟩ := h.peer_lengths
  rw [afterCheck]
  cases hrow : classify a r m s with
  | add =>
    obtain ⟨hroom, hfound⟩ := classify_add hrow
    exact ⟨s.peerCount.toNat, lookup_of_added (peerCount_add_one hroom hP) rfl (hlenA ▸ hroom) hfound,
      pairLe_of_eq (getD_set_self r (hlenR ▸ hroom)) (getD_set_self m (hlenM ▸ hroom))⟩
  | restart i =>
    obtain ⟨hfound, -⟩ := classify_restart hrow
    have hi : i < s.cfg.peerCapacity := hlenA ▸ (lookup_eq_some.mp hfound).2.1
    exact ⟨i, hfound, pairLe_of_eq (getD_set_self r (hlenR ▸ hi)) (getD_set_self m (hlenM ▸ hi))⟩
  | advance i =>
    obtain ⟨hfound, hrst, -⟩ := classify_advance hrow
    have hi : i < s.cfg.peerCapacity := hlenA ▸ (lookup_eq_some.mp hfound).2.1
    exact ⟨i, hfound, pairLe_of_eq hrst (getD_set_self m (hlenM ▸ hi))⟩
  | full | stale | replay => rw [hrow] at haccept; cases haccept

/-- Settles O40: the accepted pair is held after the first PROCESS, every command of the run keeps it held, and the
comparator rejects a pair not above a held one. -/
theorem acceptedPairIsNeverAcceptedAgain : Obligations.AcceptedPairIsNeverAcceptedAgain := by
  intro f g between s t u v h hlegal hfirst haccept hrun hsecond hsrc hle
  obtain ⟨hinit, hfresh, hafter⟩ := exec_process_of_accepting h hfirst haccept
  have hheld : pairHeld (frameSrc f) (frameRst f) (frameMsg f) t := by
    rw [hafter]
    exact afterCheck_pairHeld h.beginCommand (Config.peerCapacity_of_legal hlegal) hfresh
  have ht := Initialised.exec ⟨h, hlegal, hinit⟩ hfirst
  obtain ⟨hu, hheldLater⟩ := runAll_keeps exec_keeps_pairHeld ht hheld hrun
  have hreject : (frameFreshness g u).accepting = false := by
    rw [frameFreshness, hsrc]
    exact hheldLater.rejects hle
  exact exec_process_of_rejecting hu.initDone hreject hsecond

end Sys2Proof.Machine
end

section
/-! O38: the comparator's truth table, row by row (R178, R179). -/

namespace Sys2Proof.Machine

/-- Transactions that end in a commit leave their content durable (R53, R63). -/
theorem afterTxns_of_commit (ts : List StTxn) (s : State) :
    afterTxns (ts ++ [.commit]) s = { s with
      sto := s.sto ++ (ts ++ [.commit])
      storage := (ts ++ [StTxn.commit]).foldl StTxn.store s.storage
      committed := (ts ++ [StTxn.commit]).foldl StTxn.store s.storage } := by
  rw [afterTxns, commitFold_commit, foldl_store_commit]

theorem afterTxns_nil (s : State) : afterTxns [] s = s := by
  simp only [afterTxns, List.foldl_nil, commitFold, List.append_nil]

theorem checkAndUpdate_of_rejecting {a r m : Half} {s : State} (hcount : s.peerCount.toNat ≤ s.cfg.peerCapacity)
    (ha : s.agentAnswers = true) (hreject : (classify a r m s).status.accepting = false) :
    checkAndUpdate a r m s = .next s := by
  rw [checkAndUpdate_completes hcount ha, afterCheck_of_rejecting hreject]

/-- Settles O38, row by row: the lookup and the two comparisons choose the row, and the row says what is written. -/
theorem comparatorTruthTable : Obligations.ComparatorTruthTable := by
  intro a r m s ha hcount hlen
  have hcompletes := checkAndUpdate_completes hcount ha a r m
  have hrejects := checkAndUpdate_of_rejecting (a := a) (r := r) (m := m) hcount ha
  refine ⟨fun hunknown => ?_, fun i hi haddr hfirst => ?_⟩
  · have hfound : lookup s a = none := lookup_eq_none.mpr fun j hj _ => hunknown j hj
    refine ⟨fun hroom => ?_, fun hfull => ?_⟩
    · have hrow := classify_of_unknown_room (r := r) (m := m) hfound hroom
      refine ⟨by rw [hrow]; rfl, ?_⟩
      rintro _ txns rfl rfl
      rw [hcompletes, afterCheck, hrow]
      exact congrArg _ (afterTxns_of_commit [_, _, _, _, _] _)
    · have hrow := classify_of_unknown_full (r := r) (m := m) hfound hfull
      rw [hrow] at hrejects ⊢
      exact ⟨rfl, hrejects rfl⟩
  · have hfound : lookup s a = some i := lookup_eq_some.mpr ⟨hi, by omega, haddr, hfirst⟩
    refine ⟨fun hrst => ?_, fun hrst => ?_, fun hrst hmsg => ?_, fun hrst hmsg => ?_⟩
    · have hrow := classify_of_higher_rst (m := m) hfound hrst
      refine ⟨by rw [hrow]; rfl, ?_⟩
      rintro txns rfl
      rw [hcompletes, afterCheck, hrow]
      exact congrArg _ (afterTxns_of_commit [_, _] _)
    · rw [classify_of_lower_rst hfound hrst] at hrejects ⊢
      exact ⟨rfl, hrejects rfl⟩
    · rw [hcompletes, afterCheck, classify_of_higher_msg hfound hrst hmsg]
      exact ⟨rfl, congrArg _ (afterTxns_nil _)⟩
    · rw [classify_of_msg_not_higher hfound hrst hmsg] at hrejects ⊢
      exact ⟨rfl, hrejects rfl⟩

end Sys2Proof.Machine
end

section
/-! O41, O42: the addresses of the table: an address is added once, and none when the table is full
(R172, R173, R176). -/

namespace Sys2Proof.Machine

/-- The freshness check leaves the known addresses as they are, or adds an unknown one at the end (R172, R176). -/
theorem afterCheck_knownAddrs {s : State} (h : s.Inv) (hP : s.cfg.peerCapacity ≤ 255) (a r m : Half) :
    (afterCheck a r m s).knownAddrs = s.knownAddrs ∨
      (a ∉ s.knownAddrs ∧ (afterCheck a r m s).knownAddrs = s.knownAddrs ++ [a]) := by
  rw [afterCheck]
  cases hrow : classify a r m s with
  | add =>
    obtain ⟨hroom, hfound⟩ := classify_add hrow
    have hlen : s.peerCount.toNat < s.peerAddr.length := h.peer_lengths.1 ▸ hroom
    refine .inr ⟨lookup_eq_none_iff_not_mem.mp hfound, ?_⟩
    calc (s.peerAddr.set s.peerCount.toNat a).take (s.peerCount + 1).toNat
        = (s.peerAddr.set s.peerCount.toNat a).take (s.peerCount.toNat + 1) := by rw [peerCount_add_one hroom hP]
      _ = s.peerAddr.take s.peerCount.toNat ++ [a] := by
        rw [List.take_add_one, List.take_set_of_le le_rfl, List.getElem?_set_self hlen]
        rfl
  | restart | advance | full | stale | replay => exact .inl rfl

/-- Settles O41: a command leaves the known addresses as they are, or adds one not among them. -/
theorem noDuplicateAddresses : Obligations.NoDuplicateAddresses := by
  intro i s t h hlegal hinit hnodup hexec
  rcases exec_table hinit hexec with ⟨hcount, haddr, -⟩ | ⟨-, f, rfl⟩
  · rwa [hcount, haddr]
  · have hload := h.beginCommand.clearRx_loadHeader hinit f
    obtain ⟨hcount, haddr, -⟩ := afterFreshness_table f (s.beginCommand.clearRx.loadHeader f)
    rw [hcount, haddr]
    change (State.knownAddrs (afterCheck _ _ _ _)).Nodup
    rcases afterCheck_knownAddrs hload (Config.peerCapacity_of_legal hlegal) _ _ _ with hsame | ⟨hnew, hadded⟩
    · exact hsame ▸ hnodup
    · rw [hadded, ← List.concat_eq_append]
      exact hnodup.concat hnew

/-- The table is full and holds the addresses `addrs`, in a block whose address is `own`. -/
structure FullOf (addrs : List Half) (own : Half) (s : State) : Prop where
  full : s.peerCount.toNat = s.cfg.peerCapacity
  addrs_eq : s.peerAddr = addrs
  own_eq : s.ownAddr = own

/-- A command leaves the addresses of a full table alone (R31, R173). -/
theorem exec_keeps_fullOf {addrs : List Half} {own : Half} {i : Instr} {s t : State} (hs : Initialised s)
    (hfull : FullOf addrs own s) (h : exec i s = .next t) : FullOf addrs own t := by
  have ht := (hs.exec h).inv
  have hcfg := exec_cfg h
  obtain ⟨hcount, hentry⟩ := peerTableOnlyMovesForward i s t hs.inv hs.legal hs.initDone h
  obtain ⟨hlenS, -⟩ := hs.inv.peer_lengths
  obtain ⟨hlenT, -⟩ := ht.peer_lengths
  refine ⟨le_antisymm ht.count_le (by rw [hcfg, ← hfull.full]; exact hcount), ?_, (exec_ownAddr h).trans hfull.own_eq⟩
  rw [← hfull.addrs_eq]
  refine List.ext_getElem (by rw [hlenT, hlenS, hcfg]) fun k hkT hkS => ?_
  obtain ⟨haddr, -⟩ := hentry k (by rw [hfull.full, ← hlenS]; exact hkS)
  rwa [List.getD_eq_getElem _ _ hkT, List.getD_eq_getElem _ _ hkS] at haddr

/-- The freshness outcome of a source a full table does not hold (R173). -/
theorem FullOf.frameFreshness_unknown {addrs : List Half} {own : Half} {s : State} (hfull : FullOf addrs own s)
    {f : List Byte} (hsrc : frameSrc f ∉ addrs) : frameFreshness f s = .atMaxAddresses := by
  have hfound : lookup s (frameSrc f) = none :=
    lookup_eq_none_iff_not_mem.mpr fun hmem => hsrc (hfull.addrs_eq ▸ List.mem_of_mem_take hmem)
  rw [frameFreshness, classify_of_unknown_full hfound hfull.full]
  rfl

/-- Settles O42: every command keeps the full table's addresses, so after any run the comparator answers that the table
is full, and PROCESS does not accept. -/
theorem fullTableRejectsUnknownSources : Obligations.FullTableRejectsUnknownSources := by
  intro run f s t u h hlegal hinit hcount hsrc hrun hexec
  obtain ⟨ht, hfull⟩ := runAll_keeps exec_keeps_fullOf ⟨h, hlegal, hinit⟩ ⟨hcount, rfl, rfl⟩ hrun
  have hfresh := hfull.frameFreshness_unknown hsrc
  obtain ⟨-, hfailed, hinvalid⟩ := exec_process_of_rejecting ht.initDone (by rw [hfresh]; rfl) hexec
  refine ⟨hfailed, hinvalid, (exec_keeps_fullOf ht hfull hexec).addrs_eq, fun hmagic hdst => ?_⟩
  obtain rfl := eq_afterProcess_of_exec_process ht.initDone hmagic (hfull.own_eq ▸ hdst) hexec
  refine ⟨hfresh, fun ty htype hchk => ?_⟩
  have hverdict : verdict f (frameFreshness f t) = .atMaxAddresses := by
    rw [verdict_of_type htype, if_neg (not_not.mpr hchk), hfresh]
    rfl
  exact congrArg (fun st => some (Response.mk st [])) hverdict

end Sys2Proof.Machine
end

section
/-! O44, O45, O52: DISPATCH as one exact next state (R190 to R194), and the count of the events of a run (R192): only a
PROCESS that succeeds makes a message pending, and each event consumes one. -/

namespace Sys2Proof.Machine

/-! ### The actions -/

/-- The Beacon action on an idle event port (R194). -/
theorem dispatchBeacon_eq (en : Bool) {s : State} (hnone : s.evt = none) :
    dispatchBeacon en s = { s with evt := if en = true then some (.beacon (wordAt s.rxPayload 0)) else none } := by
  unfold dispatchBeacon
  split
  · rfl
  · rw [← hnone]

/-- The Set action on an idle event port (R193). -/
theorem dispatchSet_eq (k : Nat) (en : Bool) {s : State} (hnone : s.evt = none) :
    dispatchSet k en s = { s with
      evt := if en = true ∧ targetHit s.ownAddr s.rxPayload k = true
        then some (.set s.rxType s.ownAddr (byteAt s.rxPayload 0)) else none } := by
  simp only [dispatchSet, Bool.and_eq_true, and_comm]
  split
  · rfl
  · rw [← hnone]

theorem targetHit_zero (own : Half) (payload : List Byte) : targetHit own payload 0 = false := rfl

/-- Among one target more, OWN_ADDR is one of the others or the last (R193). -/
theorem targetHit_succ (own : Half) (payload : List Byte) (k : Nat) :
    targetHit own payload (k + 1) = true ↔ targetHit own payload k = true ∨ halfAt payload (1 + 2 * k) = own := by
  simp [targetHit, targetAddr, List.range_succ]

/-- A Set type selects the Set action with its number of targets and its callback (R191). -/
theorem dispatchAction_of_set {m : MsgType} (hm : m ≠ .beacon) {s : State} (htype : s.rxType = m.code) :
    dispatchAction s = dispatchSet m.targets (s.cbEn.get m) s := by
  rw [dispatchAction, htype, MsgType.ofByte_code]
  cases m with
  | beacon => exact absurd rfl hm
  | set1 | set2 | set3 => rfl

theorem dispatchAction_of_beacon {s : State} (htype : s.rxType = MsgType.beacon.code) :
    dispatchAction s = dispatchBeacon s.cbEn.beacon s := by
  rw [dispatchAction, htype, MsgType.ofByte_code]
  rfl

/-! ### The command -/

theorem exec_dispatch_of_nothing_pending {s : State} (hvalid : s.rxValid = false) :
    exec .dispatch s = .next (s.beginCommand.respond .noMessage []) := by
  simp [exec, execDispatch, hvalid, raise]

theorem exec_dispatch_of_pending {s : State} (hvalid : s.rxValid = true) :
    exec .dispatch s = .next ((dispatchAction s.beginCommand.consume).respond .success []) := by
  simp [exec, execDispatch, hvalid, finish]

/-- DISPATCH of a pending Set message (R190, R193). -/
theorem exec_dispatch_of_set {m : MsgType} (hm : m ≠ .beacon) {s : State} (hvalid : s.rxValid = true)
    (htype : s.rxType = m.code) : exec .dispatch s = .next { s with
      rxValid := false, rsp := some { status := .success, results := [] }, sto := []
      evt := if s.cbEn.get m = true ∧ targetHit s.ownAddr s.rxPayload m.targets = true
        then some (.set m.code s.ownAddr (byteAt s.rxPayload 0)) else none } := by
  rw [exec_dispatch_of_pending hvalid, dispatchAction_of_set (s := s.beginCommand.consume) hm htype,
    dispatchSet_eq _ _ rfl, ← htype]
  rfl

/-- DISPATCH of a pending Beacon (R190, R194). -/
theorem exec_dispatch_of_beacon {s : State} (hvalid : s.rxValid = true) (htype : s.rxType = MsgType.beacon.code) :
    exec .dispatch s = .next { s with
      rxValid := false, rsp := some { status := .success, results := [] }, sto := []
      evt := if s.cbEn.beacon = true then some (.beacon (wordAt s.rxPayload 0)) else none } := by
  rw [exec_dispatch_of_pending hvalid, dispatchAction_of_beacon (s := s.beginCommand.consume) htype,
    dispatchBeacon_eq _ rfl]
  rfl

/-- Settles O44, by the type of the pending message; what the invariant says of RX_VALID is one of its clauses. -/
theorem dispatchConsumesAndEmits : Obligations.DispatchConsumesAndEmits := by
  refine ⟨rfl, fun s => exec_dispatch_of_nothing_pending, fun s hvalid hsupported => ?_,
    fun s h => ⟨fun hinit => ?_, fun hvalid => ?_⟩⟩
  · obtain ⟨m, hm⟩ := Option.isSome_iff_exists.mp hsupported
    have htype := MsgType.eq_code_of_ofByte hm
    cases m with
    | beacon =>
      rw [exec_dispatch_of_beacon hvalid htype, if_pos (c := s.rxType = 0x01) htype]
      rfl
    | set1 | set2 | set3 =>
      rw [exec_dispatch_of_set (by decide) hvalid htype]
      simp [htype, MsgType.code, MsgType.targets, CbEn.get, targetHit_succ, targetHit_zero, or_assoc]
  · refine Bool.eq_false_iff.mpr fun hvalid => ?_
    obtain ⟨hdone, -⟩ := h.rx_valid hvalid
    cases hdone.symm.trans hinit
  · obtain ⟨-, hsupported, -⟩ := h.rx_valid hvalid
    exact hsupported

/-- Settles O52: an unsupported type selects no action. -/
theorem dispatchOfUnsupportedTypeEmitsNothing : Obligations.DispatchOfUnsupportedTypeEmitsNothing := by
  intro s hvalid htype
  have hnone : dispatchAction s.beginCommand.consume = s.beginCommand.consume := by
    rw [dispatchAction, State.consume_rxType, State.beginCommand_rxType, htype]
  rw [exec_dispatch_of_pending hvalid, hnone]
  rfl

/-! ### Events and pending messages -/

/-- Only a DISPATCH emits, and it consumes the message that was pending (R190, R192). -/
theorem exec_emits {i : Instr} {s t : State} (h : exec i s = .next t) (hevt : t.evt.isSome = true) :
    (i = .dispatch ∧ t.succeeded = true) ∧ s.rxValid = true ∧ t.rxValid = false := by
  have hi : i = .dispatch := by
    by_contra hne
    obtain ⟨-, -, -, -, -, -, -, -, -, hquiet⟩ := commandsWriteOnlyTheirElements i s t h
    rw [hquiet hne] at hevt
    cases hevt
  subst hi
  cases hvalid : s.rxValid with
  | false =>
    cases (exec_dispatch_of_nothing_pending hvalid).symm.trans h
    cases hevt
  | true =>
    cases (exec_dispatch_of_pending hvalid).symm.trans h
    obtain ⟨_, haction⟩ := dispatchAction_frame s.beginCommand.consume
    rw [haction]
    exact ⟨⟨rfl, rfl⟩, rfl, rfl⟩

/-- A message is pending after a command only if it was before, or the command is a PROCESS that succeeds (R157). -/
theorem exec_pending {i : Instr} {s t : State} (h : exec i s = .next t) (hvalid : t.rxValid = true) :
    s.rxValid = true ∨ (isProcess i = true ∧ t.succeeded = true) := by
  cases exec_effect h with
  | answered | initialized | registered | built => exact .inl hvalid
  | finalized =>
    obtain ⟨_, _, _, _, _, hadvance⟩ := afterAdvance_frame s.beginCommand
    rw [hadvance] at hvalid
    exact .inl hvalid
  | dispatched hpending => exact .inl hpending
  | badMagic | misdirected => cases hvalid
  | checked f hproc =>
    rw [afterFreshness_eq_afterProcess] at hvalid ⊢
    have hverdict : verdict f (frameFreshness f s) = .success := of_decide_eq_true hvalid
    exact .inr ⟨hproc, beq_iff_eq.mpr (congrArg some hverdict)⟩

/-! ### Runs -/

/-- 1 for a state with a message pending, else 0 (R39). -/
def pendingCount (s : State) : Nat := if s.rxValid then 1 else 0

/-- What one command adds to the events and to the pending messages is paid for by a successful PROCESS. -/
theorem exec_event_budget {i : Instr} {s t : State} (h : exec i s = .next t) :
    (if t.evt.isSome then 1 else 0) + pendingCount t ≤
      (if isProcess i && t.succeeded then 1 else 0) + pendingCount s := by
  by_cases hevt : t.evt.isSome = true
  · obtain ⟨-, hbefore, hafter⟩ := exec_emits h hevt
    simp [pendingCount, hevt, hbefore, hafter]
  · by_cases hvalid : t.rxValid = true
    · rcases exec_pending h hvalid with hbefore | haccepted
      · simp [pendingCount, hevt, hvalid, hbefore]
      · simp [pendingCount, hevt, hvalid, haccepted]
    · simp [pendingCount, hevt, hvalid]

/-- A run emits no more events than messages it accepts, and one more if a message is pending at its start. -/
theorem countP_events_le (run : List Instr) (s : State) :
    (trace run s).countP (fun p => p.2.evt.isSome) ≤
      (trace run s).countP (fun p => isProcess p.1 && p.2.succeeded) + pendingCount s := by
  fun_induction trace run s with
  | case1 | case3 | case4 => exact Nat.zero_le _
  | case2 i run s t hexec ih =>
    have hstep := exec_event_budget hexec
    simp only [List.countP_cons]
    omega

/-- Every entry of a trace is a command with a state it leaves. -/
theorem exec_of_mem_trace {run : List Instr} {s : State} {p : Instr × State} (hp : p ∈ trace run s) :
    ∃ u, exec p.1 u = .next p.2 := by
  fun_induction trace run s with
  | case1 | case3 | case4 => cases hp
  | case2 i run s t hexec ih =>
    rcases List.mem_cons.mp hp with rfl | hrest
    · exact ⟨s, hexec⟩
    · exact ih hrest

/-- Settles O45: with nothing pending at the start, each event of a run is paid for by a successful PROCESS. -/
theorem atMostOneEventPerAcceptedMessage : Obligations.AtMostOneEventPerAcceptedMessage := by
  intro run s hvalid
  refine ⟨?_, fun p hp hevt => ?_⟩
  · simpa [pendingCount, hvalid] using countP_events_le run s
  · obtain ⟨u, hexec⟩ := exec_of_mem_trace hp
    obtain ⟨hdispatch, -⟩ := exec_emits hexec hevt
    exact hdispatch

end Sys2Proof.Machine
end

section
/-! O4: which frames are illegal, by their length (R93, R94), and that they are only answered (R210). -/

namespace Sys2Proof.Machine

/-- A PROCESS buffer is never read as an illegal command. -/
theorem decodeProcess_ne_illegalCommand (f g : List Byte) : decodeProcess f ≠ .illegalCommand g := fun h => by
  cases h ▸ processBuffer_decodeProcess f

/-- The width of the wire buffers matters to PROCESS frames only (R94). -/
theorem decode_eq_of_not_process {op : Byte} (hop : op ≠ 0x20) (b b' : Nat) (args : List Byte) :
    decode b (op :: args) = decode b' (op :: args) ∧
      commandLength b (op :: args) = commandLength b' (op :: args) := by
  simp only [decode, decodeOperands, commandLength, if_neg hop, and_self]

/-- A frame of its opcode's length is no illegal command: it encodes a well-formed command, which it is read as. -/
theorem decode_ne_illegalCommand {b : Nat} (hb : 20 ≤ b) {frame : List Byte}
    (hlen : commandLength b frame = some frame.length) (g : List Byte) : decode b frame ≠ .illegalCommand g := by
  obtain ⟨i, hwf, rfl⟩ := isEncoding_of_commandLength hb hlen
  rw [decode_encode hwf]
  rintro rfl
  exact bne_iff_ne.mp hwf hlen

/-- The illegal frames are those of another length than their opcode gives, whatever the width of the wire buffers. -/
theorem decode_illegalCommand_iff (b : Nat) (op : Byte) (args : List Byte) :
    (∃ g, decode b (op :: args) = .illegalCommand g) ↔
      ¬ commandLength b (op :: args) = some (op :: args).length := by
  refine ⟨fun ⟨g, hg⟩ hlen => ?_, fun hlen => ⟨_, decode_of_commandLength_ne hlen⟩⟩
  by_cases hop : op = 0x20
  · subst hop
    have hargs : args.length = b := by
      have : 1 + b = args.length + 1 := Option.some.inj hlen
      omega
    have hdecode : decode b (0x20 :: args) = decodeProcess args := by simp [decode, decodeOperands, hargs]
    exact decodeProcess_ne_illegalCommand args g (hdecode.symm.trans hg)
  · obtain ⟨hdecode, hlength⟩ := decode_eq_of_not_process hop b 20 args
    exact decode_ne_illegalCommand (Nat.le_refl 20) (hlength ▸ hlen) g (hdecode ▸ hg)

/-- The opcodes of R93 with the number of operand bytes R94 gives each; CRC16, whose number its operands give, is not
listed. -/
def operandCounts (b : Nat) : List (Byte × Nat) :=
  [(0x01, 0), (0x02, 2), (0x10, 4), (0x11, 5), (0x12, 7), (0x13, 9), (0x18, 0), (0x20, b),
    (0x28, 0), (0x30, 0), (0x31, 0), (0x32, 0), (0x33, 0), (0x34, 0), (0x35, 0)]

/-- The length of a frame is its opcode's exactly when the operand bytes are as many as R94 gives the opcode. -/
theorem commandLength_eq_length_iff (b : Nat) (op : Byte) (args : List Byte) :
    commandLength b (op :: args) = some (op :: args).length ↔
      (op, args.length) ∈ operandCounts b ∨
        (op = 0x08 ∧ 6 ≤ args.length ∧ args.length = 6 + (halfAt args 0).toNat) := by
  generalize hframe : op :: args = frame
  fun_cases commandLength b frame
  all_goals cases hframe
  case case4 l1 l0 rest =>
    simp [operandCounts, halfAt, byteAt]
    omega
  case case5 hshort =>
    have hlen : ¬ 6 ≤ args.length := fun h =>
      match args, hshort, h with
      | l1 :: l0 :: rest, hshort, _ => hshort l1 l0 rest rfl
    simp [operandCounts, hlen]
  case case11 =>
    simp [operandCounts]
    omega
  case case19 =>
    simp only [operandCounts, List.mem_cons, Prod.mk.injEq, List.not_mem_nil, *, false_and, or_self, reduceCtorEq]
  all_goals simp [operandCounts]

/-- Settles O4: illegal frames are told by their length, and a step on one is the command's execution, which answers. -/
theorem illegalCommandsAreAnsweredOnly : Obligations.IllegalCommandsAreAnsweredOnly := by
  refine ⟨fun b op args => (decode_illegalCommand_iff b op args).trans
    (not_congr (commandLength_eq_length_iff b op args)), fun g s => rfl, ?_⟩
  intro s op args g rest hlegal hinput hdecode
  rw [stepRunsTheDecodedCommand s _ rest hlegal hinput, hdecode]
  rfl

end Sys2Proof.Machine
end

section
/-! O46, O47: INIT as one exact next state, the second one included (R200 to R202), and what the first frames meet in
the table it loads. -/

namespace Sys2Proof.Machine

/-- Settles O47: INIT looks at INIT_DONE first. -/
theorem repeatedInitDoesNothing : Obligations.RepeatedInitDoesNothing := fun s hinit => by
  rw [exec, execInit, if_pos hinit]
  rfl

/-- The first INIT completes exactly when the storage agent answers. -/
theorem exec_init_eq_next_iff {s t : State} (hinit : s.initDone = false) :
    exec .init s = .next t ↔ s.agentAnswers = true ∧ t = afterInit s := by
  cases ha : s.agentAnswers with
  | true => simp [exec_init_of_not_done hinit ha, eq_comm]
  | false =>
    have hsilent : issue (initTxns s) (s.beginCommand.loadPeerTable.completeInit (nextOwnRst s)) =
        .fault .storageAgentSilent := issue_silent ha (by simp [initTxns])
    simp [exec, execInit, hinit, hsilent]

theorem afterInit_storage (s : State) : (afterInit s).storage = storeOwnRst s.cfg (nextOwnRst s) s.storage :=
  foldl_initTxns s s.storage

theorem afterInit_committed (s : State) : (afterInit s).committed = storeOwnRst s.cfg (nextOwnRst s) s.storage :=
  (afterTxns_committed_of_commit _ _).trans (afterInit_storage s)

theorem State.eq_with_content {t : State} {m m' : Memory} (hstorage : t.storage = m) (hcommitted : t.committed = m') :
    t = { t with storage := m, committed := m' } := by
  rw [← hstorage, ← hcommitted]

/-- All that the first INIT writes (R200, R201). -/
theorem afterInit_eq (s : State) : afterInit s = { s.loadPeerTable with
    ownRst := nextOwnRst s, ownMsg := 0, initDone := true
    storage := storeOwnRst s.cfg (nextOwnRst s) s.storage, committed := storeOwnRst s.cfg (nextOwnRst s) s.storage
    rsp := some { status := .success, results := [] }, evt := none, sto := initTxns s } :=
  State.eq_with_content (afterInit_storage s) (afterInit_committed s)

/-- The stored count stays as it is, also where INIT reads it as 0 (R201). -/
theorem afterInit_storedCount (s : State) :
    Memory.get (afterInit s).storage (countOff s.cfg) = Memory.get s.storage (countOff s.cfg) := by
  rw [afterInit_storage, get_count_storeOwnRst]

theorem afterInit_peerCount_eq_zero {s : State}
    (hcount : s.cfg.peerCapacity < (Memory.get s.storage (countOff s.cfg)).toNat) : (afterInit s).peerCount = 0 := by
  change BitVec.ofNat 8 (loadedCount s) = 0
  rw [loadedCount, if_pos hcount]
  rfl

/-- In an empty table any pair is added, which makes the stored count 1 (R172, R178). -/
theorem checkAndUpdate_of_empty {s : State} (hzero : s.peerCount = 0) (hP : 1 ≤ s.cfg.peerCapacity)
    (ha : s.agentAnswers = true) (hwf : Memory.wf s.storage) (a r m : Half) :
    ∃ u, checkAndUpdate a r m s = .next u ∧ Memory.get u.storage (countOff s.cfg) = 1 := by
  have hroom : s.peerCount.toNat < s.cfg.peerCapacity := by rwa [hzero]
  have hfound : lookup s a = none := lookup_eq_none.mpr fun j hj _ => by simp [hzero] at hj
  have hrow : classify a r m s = .add := classify_of_unknown_room hfound hroom
  refine ⟨_, checkAndUpdate_completes hroom.le ha a r m, ?_⟩
  obtain ⟨hstored, -⟩ := store_txns_add a r hwf hroom
  rw [afterCheck, hrow]
  exact hstored.trans (by rw [hzero]; rfl)

/-- After INIT every peer's message counter is 0: one of at least 1 in the stored epoch is fresh (R177, R201). -/
theorem classify_afterInit_of_known {s : State} {i : Nat} {a m : Half} (hfound : lookup (afterInit s) a = some i)
    (hm : 1 ≤ m) : classify a ((afterInit s).peerRst.getD i 0) m (afterInit s) = .advance i := by
  refine classify_of_higher_msg hfound rfl ?_
  have hzero : (afterInit s).peerMsg.getD i 0 = 0 := List.getElem?_getD_replicate_default_eq 0 s.cfg.peerCapacity i
  rw [hzero]
  bv_omega

/-- Settles O46: the exact state the first INIT leaves, and two readings of that state: an empty table for a stored
count above P, and message counters 0 for the peers it loads. -/
theorem initLoadsTheTable : Obligations.InitLoadsTheTable := by
  refine ⟨repeatedInitDoesNothing, ?_, fun s t hinit hwf hP _ h => ?_⟩
  · rintro s _ _ _ _ hinit ha rfl rfl rfl rfl
    refine ⟨rfl, ?_⟩
    rw [exec_init_of_not_done hinit ha, afterInit_eq, initTxns, List.append_assoc]
    rfl
  · obtain ⟨ha, rfl⟩ := (exec_init_eq_next_iff hinit).mp h
    refine ⟨fun hcount => ?_, fun _ _ => classify_afterInit_of_known⟩
    have hempty := afterInit_peerCount_eq_zero hcount
    exact ⟨hempty, afterInit_storedCount s,
      checkAndUpdate_of_empty (s := afterInit s) hempty hP ha (foldl_store_wf _ hwf)⟩

end Sys2Proof.Machine
end

section
/-! O48, O49: REGISTER_CB and the queries as exact next states, in every state (R203 to R209). -/

namespace Sys2Proof.Machine

theorem exec_registerCb_of_supported (m : MsgType) (en : Byte) (s : State) :
    exec (.registerCb m.code en) s =
      .next ({ s.beginCommand with cbEn := s.cbEn.put m (en != 0x00) }.respond .success []) := by
  rw [exec, execRegisterCb, MsgType.ofByte_code]
  rfl

theorem exec_registerCb_of_unsupported {ty : Byte} (htype : MsgType.ofByte ty = none) (en : Byte) (s : State) :
    exec (.registerCb ty en) s = .next (s.beginCommand.respond .unknownType []) := by
  rw [exec, execRegisterCb, htype]
  rfl

/-- The type bytes that name no supported type (R83). -/
theorem MsgType.ofByte_eq_none_iff {t : Byte} : MsgType.ofByte t = none ↔ ∀ m : MsgType, t ≠ m.code := by
  refine ⟨fun h m hm => ?_, fun h => Option.eq_none_iff_forall_ne_some.mpr fun m hm => h m (eq_code_of_ofByte hm)⟩
  rw [hm, ofByte_code] at h
  cases h

/-- Settles O48, by the type byte: the code of a supported type, or none of the four. -/
theorem registerCbWritesOneBit : Obligations.RegisterCbWritesOneBit := by
  intro ty en on s hon
  refine ⟨rfl, ?_⟩
  have hbit : (en != 0x00) = on := Bool.eq_iff_iff.mpr (bne_iff_ne.trans hon.symm)
  cases htype : MsgType.ofByte ty with
  | some m =>
    obtain rfl := MsgType.eq_code_of_ofByte htype
    rw [exec_registerCb_of_supported, hbit]
    cases m with
    | beacon | set1 | set2 | set3 => rfl
  | none =>
    have hother := MsgType.ofByte_eq_none_iff.mp htype
    have hbeacon : ty ≠ 0x01 := hother .beacon
    have hset1 : ty ≠ 0x10 := hother .set1
    have hset2 : ty ≠ 0x11 := hother .set2
    have hset3 : ty ≠ 0x12 := hother .set3
    rw [exec_registerCb_of_unsupported htype]
    simp only [hbeacon, hset1, hset2, hset3, if_false, or_self]
    rfl

/-- Settles O49: the registers are answered as they stand, and power-on and the bad-magic branch leave them zero. -/
theorem queriesAnswerTheirRegister : Obligations.QueriesAnswerTheirRegister := by
  refine ⟨fun q op value s hq => ?_, fun q t hq ht => ?_⟩
  · simp only [List.mem_cons, Prod.mk.injEq, List.not_mem_nil, or_false] at hq
    rcases hq with ⟨rfl, rfl, rfl⟩ | ⟨rfl, rfl, rfl⟩ | ⟨rfl, rfl, rfl⟩ | ⟨rfl, rfl, rfl⟩ |
      ⟨rfl, rfl, rfl⟩ | ⟨rfl, rfl, rfl⟩
    all_goals exact ⟨rfl, rfl, rfl⟩
  · rcases ht with ⟨c, content, rfl⟩ | ⟨s, frame, hinit, hmagic, h⟩
    · exact exec_query_of_zeroed rfl rfl rfl rfl rfl rfl hq
    · cases (exec_process_of_badMagic hinit hmagic).symm.trans h
      exact exec_query_of_zeroed rfl rfl rfl rfl rfl rfl hq

end Sys2Proof.Machine
end

section
/-! O6: every input completes with the storage agent answering, and what the agent's silence changes (R232). A command
run with a silent agent is compared with its run with an answering one; the comparison is said of outcomes, and follows
their parts. -/

namespace Sys2Proof.Machine

/-- `o` is a next state, and `o'` is `o` with a silent agent: the same state if `o` has no storage transaction, and
stuck if it has one (R232 (b)). -/
def AlikeUnlessStored (o o' : Host.Outcome State Fault Refusal) : Prop :=
  ∃ t, o = .next t ∧ (t.sto = [] → o' = .next (t.setAgent false)) ∧ (t.sto ≠ [] → o' = .fault .storageAgentSilent)

theorem alikeUnlessStored_next {t : State} (hsto : t.sto = []) :
    AlikeUnlessStored (.next t) (.next (t.setAgent false)) :=
  ⟨t, rfl, fun _ => rfl, fun hne => absurd hsto hne⟩

/-- Transactions in range complete when the agent answers; any at all are stuck when it is silent (R53, R54). -/
theorem alikeUnlessStored_issue {ts : List StTxn} {s : State} (hsto : s.sto = []) (ha : s.agentAnswers = true)
    (hrange : ∀ x ∈ ts, x.inRange s.cfg = true) :
    AlikeUnlessStored (issue ts s) (issue ts (s.setAgent false)) := by
  have hissued : (afterTxns ts s).sto = ts := by simp [afterTxns, hsto]
  refine ⟨afterTxns ts s, issue_completes (fun _ => ha) hrange, fun hnone => ?_, fun hsome => ?_⟩
  · obtain rfl : ts = [] := hissued.symm.trans hnone
    rw [afterTxns_nil]
    rfl
  · exact issue_silent rfl (hissued ▸ hsome)

/-- `g` touches no storage and does not look at the agent. -/
structure AgentBlind (g : State → State) : Prop where
  sto : ∀ s, (g s).sto = s.sto
  setAgent : ∀ s answers, g (s.setAgent answers) = (g s).setAgent answers

/-- What follows the transactions, if it does not depend on the agent, adds nothing to the difference. -/
theorem AlikeUnlessStored.andThen {o o' : Host.Outcome State Fault Refusal}
    {k : State → Host.Outcome State Fault Refusal} {g : State → State} (h : AlikeUnlessStored o o') (hg : AgentBlind g)
    (hk : ∀ u, k u = .next (g u)) : AlikeUnlessStored (andThen o k) (andThen o' k) := by
  obtain ⟨t, rfl, halike, hstuck⟩ := h
  refine ⟨g t, hk t, fun hnone => ?_, fun hsome => ?_⟩
  · rw [halike (hg.sto t ▸ hnone), andThen_next, hk, hg.setAgent]
  · rw [hstuck (hg.sto t ▸ hsome), andThen_fault]

/-! ### The steps that follow a command's transactions -/

theorem agentBlind_respond (st : Status) (results : List Byte) : AgentBlind (State.respond st results) :=
  ⟨fun _ => rfl, fun _ _ => rfl⟩

theorem agentBlind_afterEmit : AgentBlind afterEmit := ⟨fun _ => rfl, fun _ _ => rfl⟩

theorem dispatchBeacon_setAgent (en : Bool) (s : State) (answers : Bool) :
    dispatchBeacon en (s.setAgent answers) = (dispatchBeacon en s).setAgent answers := by
  cases en with
  | true | false => rfl

theorem dispatchSet_setAgent (k : Nat) (en : Bool) (s : State) (answers : Bool) :
    dispatchSet k en (s.setAgent answers) = (dispatchSet k en s).setAgent answers := by
  rw [dispatchSet, dispatchSet, apply_ite (State.setAgent answers)]
  rfl

theorem agentBlind_dispatchAction : AgentBlind dispatchAction where
  sto s := by
    obtain ⟨_, haction⟩ := dispatchAction_frame s
    rw [haction]
  setAgent s answers := by
    rw [dispatchAction, dispatchAction, State.setAgent_rxType]
    split
    · exact dispatchBeacon_setAgent _ s answers
    · exact dispatchSet_setAgent _ _ s answers
    · exact dispatchSet_setAgent _ _ s answers
    · exact dispatchSet_setAgent _ _ s answers
    · rfl

theorem agentBlind_judged (f : List Byte) (v : Status) : AgentBlind (judged f v) where
  sto s := by
    obtain ⟨_, _, _, hjudged⟩ := judged_frame f v s
    rw [hjudged]
  setAgent s answers := by
    simp only [judged, State.setAgent_rxType]
    repeat' split
    all_goals rfl

theorem updateTable_setAgent (a r m : Half) (s : State) (answers : Bool) (row : Freshness) :
    row.updateTable a r m (s.setAgent answers) = (row.updateTable a r m s).setAgent answers := by
  cases row with
  | add | full | restart _ | stale | advance _ | replay => rfl

theorem updateTable_sto (a r m : Half) (s : State) (row : Freshness) : (row.updateTable a r m s).sto = s.sto := by
  obtain ⟨_, _, _, _, htable⟩ := updateTable_frame a r m s row
  rw [htable]

/-! ### The commands that may issue transactions, and DISPATCH -/

theorem execInit_alikeUnlessStored {s : State} (ha : s.agentAnswers = true) :
    AlikeUnlessStored (execInit s) (execInit (s.setAgent false)) := by
  rw [execInit, execInit, State.setAgent_initDone]
  split
  · exact alikeUnlessStored_next (t := s.beginCommand.respond .success []) rfl
  · exact (alikeUnlessStored_issue (s := s.beginCommand.loadPeerTable.completeInit (nextOwnRst s)) rfl ha
      (initTxns_inRange s)).andThen (agentBlind_respond .success []) fun _ => rfl

theorem advanceOwnCounters_alikeUnlessStored {s : State} (hsto : s.sto = []) (ha : s.agentAnswers = true) :
    AlikeUnlessStored (advanceOwnCounters s) (advanceOwnCounters (s.setAgent false)) := by
  rw [advanceOwnCounters, advanceOwnCounters, State.setAgent_ownMsg]
  split
  · exact alikeUnlessStored_issue (s := { s with ownMsg := 0x0000 + 1, ownRst := s.ownRst + 1 }) hsto ha
      (ownRstTxns_inRange s.cfg _)
  · exact alikeUnlessStored_next (t := { s with ownMsg := s.ownMsg + 1 }) hsto

theorem execFinalize_alikeUnlessStored {s : State} (ha : s.agentAnswers = true) :
    AlikeUnlessStored (execFinalize s) (execFinalize (s.setAgent false)) := by
  rw [execFinalize, execFinalize, State.setAgent_initDone, State.setAgent_txLen]
  split
  · exact alikeUnlessStored_next (t := s.beginCommand.respond .notInitialized []) rfl
  · split
    · exact alikeUnlessStored_next (t := s.beginCommand.respond .noMessage []) rfl
    · exact (advanceOwnCounters_alikeUnlessStored (s := s.beginCommand) rfl ha).andThen agentBlind_afterEmit
        fun _ => rfl

theorem execDispatch_alikeUnlessStored (s : State) :
    AlikeUnlessStored (execDispatch s) (execDispatch (s.setAgent false)) := by
  rw [execDispatch, execDispatch, State.setAgent_rxValid]
  split
  · exact alikeUnlessStored_next (t := s.beginCommand.respond .noMessage []) rfl
  · have haction : AlikeUnlessStored (.next (dispatchAction s.beginCommand.consume))
        (.next (dispatchAction (s.setAgent false).beginCommand.consume)) :=
      agentBlind_dispatchAction.setAgent s.beginCommand.consume false ▸
        alikeUnlessStored_next (agentBlind_dispatchAction.sto _)
    exact haction.andThen (agentBlind_respond .success []) fun _ => rfl

theorem checkAndUpdate_alikeUnlessStored {s : State} (hsto : s.sto = []) (ha : s.agentAnswers = true)
    (hcount : s.peerCount.toNat ≤ s.cfg.peerCapacity) (a r m : Half) :
    AlikeUnlessStored (checkAndUpdate a r m s) (checkAndUpdate a r m (s.setAgent false)) := by
  have hclassify : classify a r m (s.setAgent false) = classify a r m s := classify_congr rfl rfl rfl rfl rfl a r m
  rw [checkAndUpdate, checkAndUpdate, hclassify, updateTable_setAgent]
  refine alikeUnlessStored_issue ((updateTable_sto a r m s _).trans hsto)
    ((updateTable_agentAnswers a r m s _).trans ha) ?_
  rw [updateTable_cfg]
  exact freshness_txns_inRange hcount

theorem checkFreshness_alikeUnlessStored {s : State} (hsto : s.sto = []) (ha : s.agentAnswers = true)
    (hcount : s.peerCount.toNat ≤ s.cfg.peerCapacity) (f : List Byte) :
    AlikeUnlessStored (checkFreshness f s) (checkFreshness f (s.setAgent false)) :=
  (checkAndUpdate_alikeUnlessStored hsto ha hcount s.rxSrc s.rxRst s.rxMsg).andThen
    (g := fun t => judged f (classify s.rxSrc s.rxRst s.rxMsg s).status
      (t.recordValidation (classify s.rxSrc s.rxRst s.rxMsg s).status))
    ⟨fun u => (agentBlind_judged f _).sto (u.recordValidation _),
      fun u => (agentBlind_judged f _).setAgent (u.recordValidation _)⟩
    fun _ => judge_eq f _ _

theorem processFrame_alikeUnlessStored {s : State} (hsto : s.sto = []) (ha : s.agentAnswers = true)
    (hcount : s.peerCount.toNat ≤ s.cfg.peerCapacity) (f : List Byte) :
    AlikeUnlessStored (processFrame f s) (processFrame f (s.setAgent false)) := by
  rw [processFrame, processFrame, State.setAgent_initDone, State.setAgent_ownAddr]
  split
  · exact alikeUnlessStored_next (t := s.respond .notInitialized []) hsto
  · split
    · exact alikeUnlessStored_next (t := s.clearRx.zeroHeader.respond .invalidBuffer []) hsto
    · split
      · exact alikeUnlessStored_next (t := (s.clearRx.loadHeader f).respond .wrongDestination []) hsto
      · exact checkFreshness_alikeUnlessStored (s := s.clearRx.loadHeader f) hsto ha hcount f

/-! ### Every command, and every step -/

/-- With an answering agent every command completes; with a silent one it is stuck exactly when it has issued a
transaction (R232). -/
theorem exec_alikeUnlessStored {s : State} (ha : s.agentAnswers = true)
    (hcount : s.peerCount.toNat ≤ s.cfg.peerCapacity) (i : Instr) :
    AlikeUnlessStored (exec i s) (exec i (s.setAgent false)) := by
  cases i with
  | init => exact execInit_alikeUnlessStored ha
  | finalize => exact execFinalize_alikeUnlessStored ha
  | dispatch => exact execDispatch_alikeUnlessStored s
  | process | wireBeacon | wireSetIndividual | wireSetTwoIndividuals | wireSetThreeIndividuals
  | wireDeviceStatusReserved => exact processFrame_alikeUnlessStored (s := s.beginCommand) rfl ha hcount _
  | registerCb ty en =>
    cases htype : MsgType.ofByte ty with
    | none =>
      rw [exec_registerCb_of_unsupported htype, exec_registerCb_of_unsupported htype]
      exact alikeUnlessStored_next (t := s.beginCommand.respond .unknownType []) rfl
    | some m =>
      obtain rfl := MsgType.eq_code_of_ofByte htype
      rw [exec_registerCb_of_supported, exec_registerCb_of_supported]
      exact alikeUnlessStored_next
        (t := { s.beginCommand with cbEn := s.cbEn.put m (en != 0x00) }.respond .success []) rfl
  | crc16 l start length data =>
    rw [exec_crc16, exec_crc16]
    exact alikeUnlessStored_next (t := { s with rsp := _, evt := none, sto := [] }) rfl
  | buildBeacon | buildSet1 | buildSet2 | buildSet3 | queryRxSrc | queryRxDst | queryRxType | queryRxRst | queryRxMsg
  | queryRxValidation | illegalCommand => exact alikeUnlessStored_next rfl

/-- A command that completes leaves a response (R51). -/
theorem exec_rsp_isSome {i : Instr} {s t : State} (h : exec i s = .next t) : t.rsp.isSome = true := by
  obtain ⟨_, hrsp, -⟩ := everyCommandAnswersOnce i s t h
  rw [hrsp]
  rfl

theorem step_of_illegal {s : State} (h : ¬ s.cfg.legal = true) : step s = .refused .illegalConfiguration := if_neg h

/-- With a legal configuration and an answering agent every input completes, and every command frame is answered
(R232 (c)). -/
theorem step_completes {s : State} (hinv : s.Inv) (hlegal : s.cfg.legal = true) (ha : s.agentAnswers = true) :
    ∃ t, step s = .next t ∧ ∀ frame rest, s.input = .command frame :: rest → t.rsp.isSome = true := by
  cases hinput : s.input with
  | nil => exact ⟨s, step_of_no_input hlegal hinput, nofun⟩
  | cons i rest =>
    rw [step_eq_perform hlegal hinput]
    cases i with
    | command frame =>
      obtain ⟨t, ht, -⟩ := exec_alikeUnlessStored (s := { s with input := rest }) ha hinv.count_le
        (decode s.cfg.wireBufSize frame)
      exact ⟨t, ht, fun _ _ _ => exec_rsp_isSome ht⟩
    | powerCycle | provision _ | storageAgent _ => exact ⟨_, rfl, nofun⟩

/-- A command frame that meets a silent agent runs as with an answering one, or is stuck (R232 (b)). -/
theorem step_alikeUnlessStored {s : State} (hinv : s.Inv) (hlegal : s.cfg.legal = true) (ha : s.agentAnswers = false)
    {frame : List Byte} {rest : List Input} (hinput : s.input = .command frame :: rest) :
    AlikeUnlessStored (step (s.setAgent true)) (step s) := by
  have hsilent : (State.setAgent true { s with input := rest }).setAgent false = { s with input := rest } := by
    rw [State.setAgent, State.setAgent, ← ha]
  rw [step_eq_perform (s := s.setAgent true) hlegal hinput, step_eq_perform hlegal hinput]
  exact hsilent ▸ exec_alikeUnlessStored (s := State.setAgent true { s with input := rest }) rfl hinv.count_le
    (decode s.cfg.wireBufSize frame)

/-- Settles O6: an illegal configuration is refused, and a legal one has every command run alike for both agents, up to
its first transaction. -/
theorem stepOutcomes : Obligations.StepOutcomes := by
  intro s hinv
  refine ⟨fun hbad => step_of_illegal fun hlegal => ?_, fun hgood => ?_⟩
  · obtain ⟨hzero, hbroadcast, hbounds⟩ := (Config.legal_iff s.cfg).mp hlegal
    rcases hbad with haddr | haddr | hbad
    · exact hzero haddr
    · exact hbroadcast haddr
    · omega
  · have hlegal := (Config.legal_iff s.cfg).mpr hgood
    exact ⟨step_completes hinv hlegal, fun ha _ _ => step_alikeUnlessStored hinv hlegal ha⟩

end Sys2Proof.Machine
end

section
/-! O15, O17, O43: the block after a power cycle (R240), before INIT (R241), and after the INIT that follows (R248). -/

namespace Sys2Proof.Machine

/-! ### The power cycle -/

/-- Settles O15: a power cycle is a power-on with what power loss left, which is the committed content byte by byte, or
the current one. -/
theorem powerCycleRestoresResetState : Obligations.PowerCycleRestoresResetState := by
  intro s rest hlegal hinput _ hcommitted
  have hkept : s.storage = s.committed → powerLossContent s.draws s.storage s.committed = s.committed := fun hall => by
    rw [hall, powerLossContent_self]
  exact ⟨_, step_eq_perform hlegal hinput, rfl, rfl, rfl, rfl, rfl, rfl, rfl, rfl, rfl, rfl, rfl, rfl, rfl, rfl, rfl,
    rfl, rfl, rfl, rfl, rfl, rfl, rfl, hkept, powerLossContent_get s.draws hcommitted⟩

/-! ### Before INIT -/

/-- What a command does without looking at INIT_DONE: it completes alike whether INIT was issued or not, and leaves the
bit as it was. -/
def InitBlind (i : Instr) : Prop :=
  ∀ s : State, ∃ t, exec i s = .next t ∧ exec i { s with initDone := true } = .next { t with initDone := true }

theorem initBlind_of_isBuild {i : Instr} (hbuild : isBuild i = true) : InitBlind i := by
  obtain ⟨m, d, p, hparts⟩ := exists_buildParts hbuild
  exact fun s => ⟨_, exec_of_buildParts hparts s, exec_of_buildParts hparts _⟩

theorem initBlind_crc16 (l start length : Half) (data : List Byte) : InitBlind (.crc16 l start length data) :=
  fun s => ⟨_, exec_crc16 l start length data s, exec_crc16 l start length data _⟩

theorem initBlind_registerCb (ty en : Byte) : InitBlind (.registerCb ty en) := by
  intro s
  cases htype : MsgType.ofByte ty with
  | none => exact ⟨_, exec_registerCb_of_unsupported htype en s, exec_registerCb_of_unsupported htype en _⟩
  | some m =>
    obtain rfl := MsgType.eq_code_of_ofByte htype
    exact ⟨_, exec_registerCb_of_supported m en s, exec_registerCb_of_supported m en _⟩

theorem initBlind_query {i : Instr}
    (hquery : i ∈ [Instr.queryRxSrc, .queryRxDst, .queryRxType, .queryRxRst, .queryRxMsg, .queryRxValidation]) :
    InitBlind i := by
  simp only [List.mem_cons, List.not_mem_nil, or_false] at hquery
  rcases hquery with rfl | rfl | rfl | rfl | rfl | rfl
  all_goals exact fun s => ⟨_, rfl, rfl⟩

/-- INIT touches neither TXBUF nor TX_LEN, so FINALIZE finds the message built before it (R200, R241). -/
theorem exec_finalize_afterInit_of_built {s : State} (hlen : s.txLen ≠ 0) (ha : s.agentAnswers = true) :
    exec .finalize (afterInit s) = .next (afterEmit (afterAdvance (afterInit s).beginCommand)) :=
  exec_finalize_of_built rfl hlen fun _ => ha

/-- Settles O17: FINALIZE, PROCESS and DISPATCH end at their first check, the other commands are blind to INIT_DONE, and
INIT keeps the built message. -/
theorem behaviourBeforeInit : Obligations.BehaviourBeforeInit := by
  refine ⟨fun s hinit hvalid => ⟨exec_finalize_of_not_init hinit, fun frame => exec_process_of_not_init frame hinit,
    exec_dispatch_of_nothing_pending hvalid, ?_⟩, ?_⟩
  · rintro i (hbuild | ⟨l, start, length, data, rfl⟩ | ⟨ty, en, rfl⟩ | hquery)
    · exact initBlind_of_isBuild hbuild s
    · exact initBlind_crc16 l start length data s
    · exact initBlind_registerCb ty en s
    · exact initBlind_query hquery s
  · intro i s t u v _ _ ha hinit hbuild ht hu hv
    obtain ⟨m, d, p, hparts⟩ := exists_buildParts hbuild
    cases (exec_of_buildParts hparts s).symm.trans ht
    obtain ⟨-, rfl⟩ := (exec_init_eq_next_iff (s := afterBuild m d p s.beginCommand) hinit).mp hu
    cases (exec_finalize_afterInit_of_built (afterBuild_txLen_ne_zero m d p s.beginCommand) ha).symm.trans hv
    exact ⟨rfl, rfl, rfl⟩

/-! ### After a power cycle and INIT -/

/-- `lookup` reads the count and the addresses only (R171). -/
theorem lookup_congr {s t : State} (hcount : t.peerCount = s.peerCount) (haddr : t.peerAddr = s.peerAddr) (a : Half) :
    lookup t a = lookup s a := by
  rw [lookup, lookup, hcount, haddr]

/-- After a power cycle the INIT is a first one, and the table it loads holds the count, addresses and epochs of before
(R55, R200, R201, R240). -/
theorem exists_afterInit_of_powerCycle_init {s t u : State} {rest : List Input} (h : s.Inv)
    (hlegal : s.cfg.legal = true) (hinit : s.initDone = true)
    (hinput : s.input = .powerCycle :: .command [0x01] :: rest) (ht : step s = .next t) (hu : step t = .next u) :
    ∃ w, u = afterInit w ∧ u.peerCount = s.peerCount ∧ u.peerAddr = s.peerAddr ∧ u.peerRst = s.peerRst := by
  cases (step_powerCycle_of_committed hlegal hinput h.all_committed).symm.trans ht
  have hexec : exec .init (State.restart s.storage { s with input := rest }) = .next u :=
    (stepRunsTheDecodedCommand (State.restart s.storage { s with input := .command [0x01] :: rest }) [0x01] rest hlegal
      rfl).symm.trans hu
  obtain ⟨-, rfl⟩ := (exec_init_eq_next_iff rfl).mp hexec
  exact ⟨_, rfl, h.loadPeerTable_eq hinit⟩

/-- Settles O43: the peer is found again with its epoch, and its message counter is 0. -/
theorem replayWindowAfterRestart : Obligations.ReplayWindowAfterRestart := by
  intro s t u rest i m h hlegal hinit hinput ht hu hfound hm
  obtain ⟨w, rfl, hcount, haddr, hrst⟩ := exists_afterInit_of_powerCycle_init h hlegal hinit hinput ht hu
  rw [← hrst]
  exact classify_afterInit_of_known ((lookup_congr hcount haddr _).trans hfound) (by bv_omega)

end Sys2Proof.Machine
end
